-- ==== Sys2Proof/Word.lean ====
section
/-! DEFINITION. The word types of the block: the 32-bit host word, the 8-bit symbol, the 9-bit
TEXT_OUT entry and the 16-bit host address (00_scope.md R6; 10_state.md R21, R42; 20_memory.md R55). -/

namespace Sys2Proof

/-- A host data word, a register or a command word (20_memory.md R55, 30_encoding.md R80). -/
abbrev Word := BitVec 32

/-- A symbol code, 0..255 (10_state.md R21). -/
abbrev Sym := BitVec 8

/-- A TEXT_OUT entry, bit 8 the OOR bit and bits 7..0 the symbol (10_state.md R42). -/
abbrev OutEntry := BitVec 9

/-- A host byte address (20_memory.md R56). -/
abbrev Addr := BitVec 16

end Sys2Proof
end

