-- ==== Sys2Proof/Config.lean ====
section
/-! DEFINITION. What an instance of the block fixes: the alphabet constants, the identification word,
the buffer depths; and the free values the spec leaves open, each an opaque constant (00_scope.md R6;
10_state.md R24, R46, R47; 40_datapath.md R110; log entries 1, 3, 4). -/

namespace Sys2Proof.Config

/-- LB, the lowest symbol code of the alphabet (00_scope.md R6). -/
abbrev LB : Int := 32

/-- UB, the highest symbol code of the alphabet (00_scope.md R6). -/
abbrev UB : Int := 95

/-- RANGE, the number of symbols of the alphabet (00_scope.md R6). -/
abbrev RANGE : Int := 64

/-- SPAN = UB − LB (00_scope.md R6). -/
abbrev SPAN : Int := 63

/-- The value of the ID register (10_state.md R24). -/
def idValue : Word := 0x53434531#32

/-- The largest depth a 4 KiB window holds (00_scope.md R6, 20_memory.md R56). -/
abbrev maxDepth : Nat := 1024

/-- The default depth of both buffers (00_scope.md R6). -/
abbrev defaultDepth : Nat := 256

/-- What TIN[i] holds after reset number `n`: unspecified (70_reset_and_hazards.md R177), a free value
applied to `n` and `i` (log entry 3). -/
opaque drawTin (n i : Nat) : Sym

/-- What KEY[j] holds after reset number `n`: unspecified (R177), a free value (log entry 3). -/
opaque drawKey (n j : Nat) : Sym

/-- What TOUT[i] holds after reset number `n`: unspecified (R177), a free value (log entry 3). -/
opaque drawTout (n i : Nat) : OutEntry

/-- Whether racing read number `n` of a TOUT entry returns the new value (true) or the old one
(false): a draw with no law (40_datapath.md R110, 00_scope.md R11; log entry 4). -/
opaque raceTakesNew (n : Nat) : Bool

end Sys2Proof.Config

namespace Sys2Proof

/-- The parameters of one instance (00_scope.md R6, 10_state.md R47): TEXT_DEPTH and KEY_DEPTH.
They are fixed for the instance; State carries them because `step` takes no other argument
(DESIGN CHOICE, log entry 1). -/
structure Params where
  textDepth : Nat
  keyDepth  : Nat
  deriving DecidableEq, Repr

/-- The default parameters (00_scope.md R6). -/
def Params.default : Params :=
  { textDepth := Config.defaultDepth, keyDepth := Config.defaultDepth }

end Sys2Proof
end

