-- ==== Sys2Proof/Syntax.lean ====
section
/-! DEFINITION. The command set SCE-1: one constructor per row of spec/opcode_table.json, in the
table's order (30_encoding.md R84). No command word carries an operand (R82). -/

namespace Sys2Proof

/-- A command of the engine (30_encoding.md R84). -/
inductive Instr where
  /-- VALIDATE, 41_validate.md R122. -/
  | validate
  /-- KNORM, 42_shift.md R125. -/
  | knorm
  /-- SHENC, 42_shift.md R129. -/
  | shenc
  /-- SHDEC, 42_shift.md R133. -/
  | shdec
  /-- RKENC, 43_repeating_key.md R137. -/
  | rkenc
  /-- RKDEC, 43_repeating_key.md R142. -/
  | rkdec
  deriving DecidableEq, Repr

end Sys2Proof
end

