-- ==== Sys2Proof/WellFormed.lean ====
section
/-! DEFINITION. Well-formedness. A command has no operand (30_encoding.md R82), so every command is
well formed; the parameters of an instance are well formed when both depths lie in 1..1024
(00_scope.md R6). -/

namespace Sys2Proof

/-- Every command is well formed: its word has no operand field to check (30_encoding.md R82). -/
def Instr.wellFormed : Instr → Bool
  | .validate => true
  | .knorm => true
  | .shenc => true
  | .shdec => true
  | .rkenc => true
  | .rkdec => true

/-- A buffer depth is legal: 1 ≤ depth ≤ 1024 (00_scope.md R6). -/
def depthOk (d : Nat) : Bool := decide (1 ≤ d) && decide (d ≤ Config.maxDepth)

/-- The parameters of an instance are legal (00_scope.md R6). -/
def Params.wellFormed (p : Params) : Bool := depthOk p.textDepth && depthOk p.keyDepth

end Sys2Proof
end

