-- ==== Sys2Proof/Decode.lean ====
section
/-! DEFINITION. The decoder of command words, total on every 32-bit word and rejecting reserved words
by name, then the encoder, both from the opcode map (30_encoding.md R80, R83–R86). -/

namespace Sys2Proof

/-- Why a command word is a reserved encoding (30_encoding.md R85). -/
inductive Reserved where
  /-- CMD[31:4] is not zero. -/
  | mbzNonzero
  /-- OP is 0x0 or in 0x7..0xF. -/
  | opReserved
  deriving DecidableEq, Repr

/-- What a command word decodes to (30_encoding.md R83): a command, or the reserved encoding. -/
inductive Decoded where
  | instr (i : Instr)
  | reserved (why : Reserved)
  deriving DecidableEq, Repr

/-- The OP field, bits [3:0] (30_encoding.md R80). -/
def opField (w : Word) : BitVec 4 := w.extractLsb' 0 4

/-- The MBZ field, bits [31:4] (30_encoding.md R80). -/
def mbzField (w : Word) : BitVec 28 := w.extractLsb' 4 28

/-- OPMAP (30_encoding.md R84). -/
def opMap (op : BitVec 4) : Option Instr :=
  match op.toNat with
  | 1 => some .validate
  | 2 => some .knorm
  | 3 => some .shenc
  | 4 => some .shdec
  | 5 => some .rkenc
  | 6 => some .rkdec
  | _ => none

/-- Decode an accepted command word (30_encoding.md R83). No length and no mode takes part (R86). -/
def decode (w : Word) : Decoded :=
  if mbzField w = 0#28 then
    match opMap (opField w) with
    | some i => .instr i
    | none => .reserved .opReserved
  else .reserved .mbzNonzero

/-- The OP code of a command (30_encoding.md R84). -/
def opCode : Instr → BitVec 4
  | .validate => 0x1#4
  | .knorm => 0x2#4
  | .shenc => 0x3#4
  | .shdec => 0x4#4
  | .rkenc => 0x5#4
  | .rkdec => 0x6#4

/-- The command word of a command: MBZ zero above the OP code (30_encoding.md R80, R84). -/
def encode (i : Instr) : Word := 0#28 ++ opCode i

/-- The command word held by an instruction of `nbits` bits whose bits are `w`, numbered as
spec/opcode_table.json numbers them; every bit from `nbits` up is 0 (log entry 14). -/
def tableWord (nbits w : Nat) : Word := (BitVec.ofNat nbits w).setWidth 32

/-- The command the decoder reads from a table row's bits; none where the word is reserved. -/
def decodeTableWord (nbits w : Nat) : Option Instr :=
  match decode (tableWord nbits w) with
  | .instr i => some i
  | .reserved _ => none

end Sys2Proof
end

