-- ==== Sys2Proof/Machine/State.lean ====
section
/-! DEFINITION. The state of the block as plain data: the record of 10_state.md R48 with the hidden
POS and KPTR of R44, the sampled rst input, the instance's parameters, and the model's own fields
(the coming moves of host and platform, the last response, two draw counters); and the state after
reset (R46). -/

namespace Sys2Proof.Machine

/-- A buffer as the list of the entries written since reset, indices strictly rising; an entry that is
not listed holds its reset draw (10_state.md R40–R42, R46; log entries 3, 15). `Memory 8` is a list
of `Host.Cell`. -/
abbrev Memory (w : Nat) := List (Nat × BitVec w)

/-- PHASE (10_state.md R44). -/
inductive Phase where
  | idle
  | run
  deriving DecidableEq, Repr

/-- The kind of a host access (20_memory.md R55). -/
inductive AccessKind where
  | read
  | write
  deriving DecidableEq, Repr

/-- The size of a host access in bytes: 1, 2 or 4 (20_memory.md R55). -/
inductive AccessSize where
  | one
  | two
  | four
  deriving DecidableEq, Repr

/-- A request on the host port (20_memory.md R55). -/
structure Request where
  kind  : AccessKind
  addr  : Addr
  size  : AccessSize
  wdata : Word
  deriving DecidableEq, Repr

/-- The kind of a response (20_memory.md R55). -/
inductive Resp where
  | okay
  | error
  deriving DecidableEq, Repr

/-- A response on the host port (20_memory.md R55). -/
structure Response where
  resp  : Resp
  rdata : Word
  deriving DecidableEq, Repr

/-- A move of the outside world (20_memory.md R72, 70_reset_and_hazards.md R175). -/
inductive HostEvent where
  /-- The host presents one access and gets its response. -/
  | access (r : Request)
  /-- A clock edge samples the rst input at this level. -/
  | rst (level : Bool)
  deriving DecidableEq, Repr

/-- A coming move and its place against the engine: with `afterCompletion` a running command completes
first, without it the move comes between acceptance and completion (40_datapath.md R107; log entry 2). -/
structure Pending where
  afterCompletion : Bool
  event : HostEvent
  deriving DecidableEq, Repr

/-- Why the machine stops. -/
inductive Fault where
  /-- A host access while rst = 1 is stuck: the block gives no response (70_reset_and_hazards.md R175).
  Raised by `hostStep`, and by `runProgram` for a host program's access. Safe: the model stops where the spec says nothing answers. -/
  | accessDuringReset
  deriving DecidableEq, Repr

/-- Why a step has no meaning. -/
inductive Refusal where
  /-- An instruction without a meaning, by its mnemonic. Raised by no arm: all six have their meaning.
  Safe: a refusal proves nothing about the hardware. -/
  | notModelled (mnemonic : String)
  deriving DecidableEq, Repr

/-- The state of the block. -/
structure State where
  /-- TEXT_DEPTH and KEY_DEPTH, constants of the instance (10_state.md R47; log entry 1). -/
  params : Params
  /-- CTRL.WRAPSYM (10_state.md R26). -/
  wrapSym : Bool
  /-- CTRL.IE (10_state.md R26). -/
  ie : Bool
  /-- STATUS.BUSY (10_state.md R30). -/
  busy : Bool
  /-- STATUS.DONE (10_state.md R31). -/
  done : Bool
  /-- STATUS.VALID (10_state.md R32). -/
  valid : Bool
  /-- STATUS.OOR (10_state.md R33). -/
  oor : Bool
  /-- STATUS.ERR (10_state.md R34). -/
  err : BitVec 4
  /-- SHIFT_KEY (10_state.md R36). -/
  shiftKey : Word
  /-- TEXT_LEN (10_state.md R37), a count as in R48. -/
  textLen : Nat
  /-- KEY_LEN (10_state.md R38), a count as in R48. -/
  keyLen : Nat
  /-- OUT_LEN (10_state.md R39), a count as in R48. -/
  outLen : Nat
  /-- TEXT_IN (10_state.md R40). -/
  tin : Memory 8
  /-- KEY (10_state.md R41). -/
  key : Memory 8
  /-- TEXT_OUT (10_state.md R42). -/
  tout : Memory 9
  /-- PHASE (10_state.md R44). -/
  phase : Phase
  /-- OPL, the command word latched at acceptance (10_state.md R44). -/
  opl : Word
  /-- POS, hidden and informative (10_state.md R44; log entry 6). -/
  pos : Nat
  /-- KPTR, hidden (10_state.md R44, 40_datapath.md R104; log entry 6). -/
  kptr : Nat
  /-- The rst input as last sampled (70_reset_and_hazards.md R175; log entry 9). -/
  rst : Bool
  /-- The model's own: the coming moves of the host and the platform, oldest first (log entry 2). -/
  pending : List Pending
  /-- The model's own: the response to the host's latest access (log entry 7). -/
  response : Option Response
  /-- The model's own: how many resets there have been, for the buffer draws (log entry 3). -/
  resetCount : Nat
  /-- The model's own: how many racing TOUT reads there have been, for the race draw (log entry 4). -/
  raceCount : Nat
  deriving DecidableEq, Repr

/-- The block right after reset, with the default depths (10_state.md R46, 70_reset_and_hazards.md
R178). OPL, POS and KPTR are unspecified in R46; they are 0 here (DESIGN CHOICE, log entry 5). -/
def State.reset : State where
  params := Params.default
  wrapSym := false
  ie := false
  busy := false
  done := false
  valid := false
  oor := false
  err := 0#4
  shiftKey := 0#32
  textLen := 0
  keyLen := 0
  outLen := 0
  tin := []
  key := []
  tout := []
  phase := .idle
  opl := 0#32
  pos := 0
  kptr := 0
  rst := false
  pending := []
  response := none
  resetCount := 0
  raceCount := 0

end Sys2Proof.Machine
end

