-- ==== Sys2Proof/Machine/Ops.lean ====
section
/-! DEFINITION. The shared operations: reading and writing the sparse buffers and their entries, the
acceptance and the completion of a command, and the one way a command error is recorded, with the
host's acknowledgement beside it (40_datapath.md R106, R107; 60_exceptions.md R149, R150, R163). -/

namespace Sys2Proof.Machine

/-- The listed value of entry `i`, none when it has not been written since reset. -/
def Memory.lookup {w : Nat} : Memory w → Nat → Option (BitVec w)
  | [], _ => none
  | (j, v) :: rest, i => if i = j then some v else Memory.lookup rest i

/-- Write entry `i`, keeping the indices strictly rising. -/
def Memory.write {w : Nat} : Memory w → Nat → BitVec w → Memory w
  | [], i, v => [(i, v)]
  | (j, u) :: rest, i, v =>
    if i < j then (i, v) :: (j, u) :: rest
    else if i = j then (i, v) :: rest
    else (j, u) :: Memory.write rest i v

/-- The canonical form of a buffer of `depth` entries: indices strictly rising and below the depth.
An unlisted entry reads as a free value, so no listed entry is redundant (log entry 15). -/
abbrev Memory.wf {w : Nat} (depth : Nat) (m : Memory w) : Prop :=
  m.Pairwise (fun a b => a.1 < b.1) ∧ ∀ c ∈ m, c.1 < depth

/-- TIN[i] (10_state.md R40); not written since reset, it is the reset draw (R46). -/
def readTin (s : State) (i : Nat) : Sym :=
  (Memory.lookup s.tin i).getD (Config.drawTin s.resetCount i)

/-- KEY[j] (10_state.md R41). -/
def readKey (s : State) (j : Nat) : Sym :=
  (Memory.lookup s.key j).getD (Config.drawKey s.resetCount j)

/-- TOUT[i] (10_state.md R42). -/
def readTout (s : State) (i : Nat) : OutEntry :=
  (Memory.lookup s.tout i).getD (Config.drawTout s.resetCount i)

/-- TIN[i] <- v. -/
def writeTin (i : Nat) (v : Sym) (s : State) : State := { s with tin := Memory.write s.tin i v }

/-- KEY[j] <- v. -/
def writeKey (j : Nat) (v : Sym) (s : State) : State := { s with key := Memory.write s.key j v }

/-- accept(w): the host's CMD write starts a command (40_datapath.md R106). -/
def accept (w : Word) (s : State) : State :=
  { s with opl := w, phase := .run, busy := true, done := false, oor := false, err := 0#4 }

/-- The end of complete(), after EXEC (40_datapath.md R107). -/
def complete (s : State) : State := { s with busy := false, done := true, phase := .idle }

/-- ERR code 1, ILLEGAL_OP (60_exceptions.md R149). -/
def errIllegalOp : BitVec 4 := 1#4

/-- ERR code 2, KEY_EMPTY (60_exceptions.md R149). -/
def errKeyEmpty : BitVec 4 := 2#4

/-- raise CmdError(code): record the code; the caller writes nothing after it, so EXEC ends at once and
every write before it stays (60_exceptions.md R150). This is the block's only way of taking an error:
nothing is saved and control goes nowhere (R162). -/
def raiseCmdError (code : BitVec 4) (s : State) : State := { s with err := code }

/-- The host's acknowledgement: DONE is cleared (60_exceptions.md R163, 10_state.md R31). ERR and OOR
keep their values. -/
def acknowledge (s : State) : State := { s with done := false }

/-- The whole completion of a reserved word: ILLEGAL_OP and nothing else (60_exceptions.md R151). -/
def completeReserved (s : State) : State := complete (raiseCmdError errIllegalOp s)

/-- A clock edge with rst = 1 (70_reset_and_hazards.md R175–R177): every register takes its reset
value and a running command is abandoned. The first such edge draws the buffers anew; while rst stays
1 they keep their values (log entry 9). The instance's parameters and the coming moves are not state
of the block and stay. -/
def resetEdge (s : State) : State :=
  { State.reset with
    params := s.params
    tin := if s.rst then s.tin else []
    key := if s.rst then s.key else []
    tout := if s.rst then s.tout else []
    rst := true
    pending := s.pending
    resetCount := if s.rst then s.resetCount else s.resetCount + 1
    raceCount := s.raceCount }

/-- A clock edge with rst = 0: the block leaves reset, idle (70_reset_and_hazards.md R179). -/
def releaseReset (s : State) : State := { s with rst := false }

end Sys2Proof.Machine
end

