-- ==== Sys2Proof/Machine/Operands.lean ====
section
/-! DEFINITION. Operand assembly, every form of 30_encoding.md R82: the shift key, the lengths, the
text and key symbols and the wrap mode, with the key multiplexer (40_datapath.md R104). The lengths n
and m are the fields `textLen` and `keyLen` as they stand. -/

namespace Sys2Proof.Machine

/-- The wrap modes of the MAU (40_datapath.md R102). -/
inductive WrapMode where
  | down
  | up
  | both
  deriving DecidableEq, Repr

/-- k = sint(SHIFT_KEY) (30_encoding.md R82, 10_state.md R36). -/
def shiftKeyInt (s : State) : Int := s.shiftKey.toInt

/-- c_i = uint(TIN[i]) (30_encoding.md R82). -/
def textCode (s : State) (i : Nat) : Int := ((readTin s i).toNat : Int)

/-- s_j = uint(KEY[j]) (30_encoding.md R82). -/
def keyCode (s : State) (j : Nat) : Int := ((readKey s j).toNat : Int)

/-- KMUX: KSYM(i) = uint(KEY[i mod m]), used only when m ≥ 1 (40_datapath.md R104). -/
def ksym (s : State) (i : Nat) : Int := keyCode s (i % s.keyLen)

/-- The next value of KPTR: one more, or 0 at the end of the key (40_datapath.md R104). -/
def kptrNext (m k : Nat) : Nat := if k + 1 = m then 0 else k + 1

/-- KPTR after `i` positions, from 0 at the start of the position loop (40_datapath.md R104). -/
def kptrAfter (m : Nat) : Nat → Nat
  | 0 => 0
  | i + 1 => kptrNext m (kptrAfter m i)

/-- SHENC's MAU mode by CTRL.WRAPSYM (42_shift.md R128). -/
def shencMode (s : State) : WrapMode := if s.wrapSym then .both else .down

/-- SHDEC's MAU mode by CTRL.WRAPSYM (42_shift.md R128). -/
def shdecMode (s : State) : WrapMode := if s.wrapSym then .both else .up

end Sys2Proof.Machine
end

