-- ==== Sys2Proof/Machine/Flags.lean ====
section
/-! DEFINITION. The flag computations: the range checker VSYM, the validation result, the OOR bits, the
irq output, and the STATUS and CTRL words the flags are read in (40_datapath.md R100, R103, R111;
10_state.md R27, R35, R45). -/

namespace Sys2Proof.Machine

/-- VSYM(c): LB ≤ c ≤ UB (40_datapath.md R100). -/
def vsym (c : Int) : Bool := decide (Config.LB ≤ c ∧ c ≤ Config.UB)

/-- ALLVALID(n): every one of the first n text symbols is in the alphabet (40_datapath.md R100). -/
def allValid (n : Nat) (s : State) : Bool := (List.range n).all (fun i => vsym (textCode s i))

/-- OORBIT(r): the result is outside the alphabet (40_datapath.md R103). -/
def oorBit (r : Int) : Bool := !vsym r

/-- The OR of the OOR bits of positions 0..n−1 (40_datapath.md R111, 10_state.md R33). -/
def anyOor (n : Nat) (f : Nat → Int) : Bool := (List.range n).any (fun i => oorBit (f i))

/-- irq = STATUS.DONE AND CTRL.IE (10_state.md R45, 60_exceptions.md R160). -/
def State.irq (s : State) : Bool := s.done && s.ie

/-- The word a STATUS read returns (10_state.md R35). -/
def statusWord (s : State) : Word :=
  0#24 ++ s.err ++ BitVec.ofBool s.oor ++ BitVec.ofBool s.valid ++ BitVec.ofBool s.done
    ++ BitVec.ofBool s.busy

/-- The word a CTRL read returns (10_state.md R27). -/
def ctrlWord (s : State) : Word := 0#30 ++ BitVec.ofBool s.ie ++ BitVec.ofBool s.wrapSym

end Sys2Proof.Machine
end

