-- ==== Sys2Proof/Machine/Datapath.lean ====
section
/-! DEFINITION. The datapath: the wrap functions in the closed form the hardware computes and in the
source's loop form, the bit-level form, the modular arithmetic unit, the packing of a result and the
position loop XFORM (40_datapath.md R97–R105, R111; 42_shift.md R125, R126). -/

namespace Sys2Proof.Machine

/-- WRAP(v) = LB + ((v − LB) mod RANGE), the floored modulo (40_datapath.md R97, 00_scope.md R9). -/
def wrap (v : Int) : Int := Config.LB + (v - Config.LB) % Config.RANGE

/-- WRAP_DOWN(v), closed form (40_datapath.md R98). -/
def wrapDown (v : Int) : Int := if v > Config.UB then wrap v else v

/-- WRAP_UP(v), closed form (40_datapath.md R99). -/
def wrapUp (v : Int) : Int := if v < Config.LB then wrap v else v

/-- `while cond v: v <- body v; return v`, none when `fuel` tests do not reach the end. -/
def whileLoop (cond : Int → Bool) (body : Int → Int) : Nat → Int → Option Int
  | 0, _ => none
  | fuel + 1, v => if cond v then whileLoop cond body fuel (body v) else some v

/-- WRAP_DOWN_LOOP (40_datapath.md R98). -/
def wrapDownLoop : Nat → Int → Option Int :=
  whileLoop (fun v => decide (v > Config.UB)) (fun v => v - Config.RANGE)

/-- WRAP_UP_LOOP (40_datapath.md R99). -/
def wrapUpLoop : Nat → Int → Option Int :=
  whileLoop (fun v => decide (v < Config.LB)) (fun v => v + Config.RANGE)

/-- WRAP_BOTH_LOOP: down, then up (40_datapath.md R101). -/
def wrapBothLoop (fuel : Nat) (v : Int) : Option Int :=
  match wrapDownLoop fuel v with
  | some u => wrapUpLoop fuel u
  | none => none

/-- The bit-level form of WRAP from the low six bits of v, informative (40_datapath.md R105). -/
def wrapBits (v : BitVec 6) : BitVec 8 :=
  0#1 ++ BitVec.ofBool (!v.getLsbD 5) ++ BitVec.ofBool (v.getLsbD 5) ++ v.extractLsb' 0 5

/-- KNORM's key in closed form, which the hardware computes in one step (42_shift.md R126). -/
def normalizeKey (k : Int) : Int := if k > Config.SPAN then k % Config.RANGE else k

/-- KNORM's loop (42_shift.md R125). -/
def normalizeKeyLoop : Nat → Int → Option Int :=
  whileLoop (fun t => decide (t > Config.SPAN)) (fun t => t - Config.RANGE)

/-- MAU(a, b, sub, mode), over exact integers (40_datapath.md R102). -/
def mau (a b : Int) (sub : Bool) (mode : WrapMode) : Int :=
  let v := if sub then a - b else a + b
  match mode with
  | .down => wrapDown v
  | .up => wrapUp v
  | .both => wrap v

/-- PACK(r) = {OORBIT(r), (r mod 256)[7:0]} (40_datapath.md R103). -/
def pack (r : Int) : OutEntry := BitVec.ofBool (oorBit r) ++ BitVec.ofInt 8 r

/-- TOUT[i] <- PACK(f(i)) for i in 0..n−1, in increasing i (40_datapath.md R111). -/
def writeResults : Nat → (Nat → Int) → Memory 9 → Memory 9
  | 0, _, m => m
  | n + 1, f, m => Memory.write (writeResults n f m) n (pack (f n))

/-- XFORM(n, f) (40_datapath.md R111). POS has run through 0..n−1 and stands at n (log entry 6). -/
def xform (n : Nat) (f : Nat → Int) (s : State) : State :=
  { s with
    tout := writeResults n f s.tout
    outLen := n
    oor := anyOor n f
    pos := n }

/-- XFORM with the key multiplexer: KPTR has stepped once per position (40_datapath.md R104; log
entry 6). -/
def xformKeyed (n : Nat) (f : Nat → Int) (s : State) : State :=
  { xform n f s with kptr := kptrAfter s.keyLen n }

end Sys2Proof.Machine
end

