-- ==== Sys2Proof/Machine/RepeatingKey.lean ====
section
/-! DEFINITION. The repeating-key family: RKENC and RKDEC (43_repeating_key.md R137, R142), with the
order of checks of 60_exceptions.md R157. A meaning is the whole completion step of its command
(40_datapath.md R107; log entry 10). -/

namespace Sys2Proof.Machine

/-- An empty key: OUT_LEN <- 0, then KEY_EMPTY (60_exceptions.md R152). -/
def keyEmpty (s : State) : State := raiseCmdError errKeyEmpty { s with outLen := 0 }

/-- RKENC's result at position i (43_repeating_key.md R137). -/
def rkencResult (s : State) (i : Nat) : Int := mau (textCode s i) (ksym s i) false .both

/-- The body of exec_RKENC (43_repeating_key.md R137): the validation gate (R138), then the empty key
(R139), then the transform. -/
def rkencBody (s : State) : State :=
  if allValid s.textLen s then
    if s.keyLen = 0 then keyEmpty { s with valid := true }
    else xformKeyed s.textLen (rkencResult s) { s with valid := true }
  else { s with valid := false, outLen := 0 }

/-- RKENC (43_repeating_key.md R137). -/
def execRkenc (s : State) : Host.Outcome State Fault Refusal := .next (complete (rkencBody s))

/-- RKDEC's result at position i (43_repeating_key.md R142). -/
def rkdecResult (s : State) (i : Nat) : Int := mau (textCode s i) (ksym s i) true .both

/-- The body of exec_RKDEC (43_repeating_key.md R142): the empty key (R144), then the transform; no
validation (R143). -/
def rkdecBody (s : State) : State :=
  if s.keyLen = 0 then keyEmpty s
  else xformKeyed s.textLen (rkdecResult s) s

/-- RKDEC (43_repeating_key.md R142). -/
def execRkdec (s : State) : Host.Outcome State Fault Refusal := .next (complete (rkdecBody s))

end Sys2Proof.Machine
end

