-- ==== Sys2Proof/Machine/Shift.lean ====
section
/-! DEFINITION. The shift family: KNORM, SHENC and SHDEC (42_shift.md R125, R129, R133). A meaning is
the whole completion step of its command (40_datapath.md R107; log entry 10). -/

namespace Sys2Proof.Machine

/-- KNORM: SHIFT_KEY <- t[31:0] (42_shift.md R125), t in the closed form of R126. -/
def execKnorm (s : State) : Host.Outcome State Fault Refusal :=
  .next (complete { s with shiftKey := BitVec.ofInt 32 (normalizeKey (shiftKeyInt s)) })

/-- SHENC's result at position i (42_shift.md R129). -/
def shencResult (s : State) (i : Nat) : Int :=
  mau (textCode s i) (shiftKeyInt s) false (shencMode s)

/-- SHENC (42_shift.md R129). The text is not validated. -/
def execShenc (s : State) : Host.Outcome State Fault Refusal :=
  .next (complete (xform s.textLen (shencResult s) s))

/-- SHDEC's result at position i (42_shift.md R133). -/
def shdecResult (s : State) (i : Nat) : Int :=
  mau (textCode s i) (shiftKeyInt s) true (shdecMode s)

/-- SHDEC (42_shift.md R133). The text is not validated. -/
def execShdec (s : State) : Host.Outcome State Fault Refusal :=
  .next (complete (xform s.textLen (shdecResult s) s))

end Sys2Proof.Machine
end

