-- ==== Sys2Proof/Machine/Validate.lean ====
section
/-! DEFINITION. The validation family: VALIDATE (41_validate.md R122). A meaning is the whole completion
step of its command, EXEC and the end of complete() (40_datapath.md R107; log entry 10). -/

namespace Sys2Proof.Machine

/-- VALIDATE (41_validate.md R122). -/
def execValidate (s : State) : Host.Outcome State Fault Refusal :=
  .next (complete { s with valid := allValid s.textLen s })

end Sys2Proof.Machine
end

