-- ==== Sys2Proof/Machine/Dispatch.lean ====
section
/-! DEFINITION. EXEC's dispatch on the decoded command (40_datapath.md R108): one arm per command. -/

namespace Sys2Proof.Machine

def exec (i : Instr) (s : State) : Host.Outcome State Fault Refusal :=
  match i with
  | .validate => Sys2Proof.Machine.execValidate s
  | .knorm => Sys2Proof.Machine.execKnorm s
  | .shenc => Sys2Proof.Machine.execShenc s
  | .shdec => Sys2Proof.Machine.execShdec s
  | .rkenc => Sys2Proof.Machine.execRkenc s
  | .rkdec => Sys2Proof.Machine.execRkdec s

end Sys2Proof.Machine
end

