-- ==== Sys2Proof/Machine/HostPort.lean ====
section
/-! DEFINITION. The two agents' steps: the engine's completion of the latched command, and the host
port with its address map, access checks, reads and writes (20_memory.md R55–R64; 40_datapath.md
R107, R108, R110; 60_exceptions.md R155, R156; 70_reset_and_hazards.md R175, R183). -/

namespace Sys2Proof.Machine

/-- The engine's one step, complete() with EXEC(OPL) (40_datapath.md R107, R108): the decoded command's
meaning, or ILLEGAL_OP for a reserved word. -/
def engineStep (s : State) : Host.Outcome State Fault Refusal :=
  match decode s.opl with
  | .instr i => exec i s
  | .reserved _ => .next (completeReserved s)

/-- NEWTOUT(i): what the running command will write to TOUT[i], the present value where it writes
nothing there (40_datapath.md R110). -/
def newTout (s : State) (i : Nat) : OutEntry :=
  match engineStep s with
  | .next t => readTout t i
  | .fault _ => readTout s i
  | .refused _ => readTout s i

/-- race_tout(i): one of the old and the new value, by a free choice (40_datapath.md R110; log entry 4). -/
def raceTout (s : State) (i : Nat) : OutEntry :=
  if Config.raceTakesNew s.raceCount then newTout s i else readTout s i

/-- A location of the address map (20_memory.md R56). -/
inductive Target where
  | id
  | param
  | ctrl
  | cmd
  | status
  | shiftKey
  | textLen
  | keyLen
  | outLen
  | tin (i : Nat)
  | key (j : Nat)
  | tout (i : Nat)
  | unmapped
  deriving DecidableEq, Repr

/-- The register at word index `n` of 0x0000–0x0023 (10_state.md R23). -/
def regTarget (n : Nat) : Target :=
  match n with
  | 0 => .id
  | 1 => .param
  | 2 => .ctrl
  | 3 => .cmd
  | 4 => .status
  | 5 => .shiftKey
  | 6 => .textLen
  | 7 => .keyLen
  | 8 => .outLen
  | _ => .unmapped

/-- The location of an aligned address (20_memory.md R56): word 0x000n of the registers, a word of one
of the three 4 KiB windows below its depth, or unmapped. -/
def target (p : Params) (a : Addr) : Target :=
  let word := a.toNat % 0x1000 / 4
  match a.toNat / 0x1000 with
  | 0 => regTarget word
  | 1 => if word < p.textDepth then .tin word else .unmapped
  | 2 => if word < p.keyDepth then .key word else .unmapped
  | 3 => if word < p.textDepth then .tout word else .unmapped
  | _ => .unmapped

/-- The cause of an ERROR response (60_exceptions.md R155); the host sees only ERROR. -/
inductive AccessError where
  | size
  | misaligned
  | unmapped
  | readOnly
  | busy
  | data
  deriving DecidableEq, Repr

/-- What an access answers: ERROR with its cause and no effect, or OKAY with read data and the state it
leaves (20_memory.md R55, R60). -/
inductive AccessResult where
  | error (cause : AccessError)
  | okay (rdata : Word) (s : State)
  deriving DecidableEq, Repr

/-- The word a PARAM read returns (10_state.md R25). -/
def paramWord (p : Params) : Word := BitVec.ofNat 16 p.keyDepth ++ BitVec.ofNat 16 p.textDepth

/-- A TOUT read: exact while BUSY = 0, a race while BUSY = 1, which uses up one draw (20_memory.md
R58, 40_datapath.md R110). -/
def readToutPort (i : Nat) (s : State) : AccessResult :=
  if s.busy then .okay ((raceTout s i).zeroExtend 32) { s with raceCount := s.raceCount + 1 }
  else .okay ((readTout s i).zeroExtend 32) s

/-- MemRead(addr, 4) at an aligned address (20_memory.md R58). -/
def memRead (a : Addr) (s : State) : AccessResult :=
  match target s.params a with
  | .id => .okay Config.idValue s
  | .param => .okay (paramWord s.params) s
  | .ctrl => .okay (ctrlWord s) s
  | .cmd => .okay 0#32 s
  | .status => .okay (statusWord s) s
  | .shiftKey => .okay s.shiftKey s
  | .textLen => .okay (BitVec.ofNat 32 s.textLen) s
  | .keyLen => .okay (BitVec.ofNat 32 s.keyLen) s
  | .outLen => .okay (BitVec.ofNat 32 s.outLen) s
  | .tin i => .okay ((readTin s i).zeroExtend 32) s
  | .key j => .okay ((readKey s j).zeroExtend 32) s
  | .tout i => readToutPort i s
  | .unmapped => .error .unmapped

/-- An OKAY write: no read data (20_memory.md R55). -/
def wrote (s : State) : AccessResult := .okay 0#32 s

/-- A write that is refused while BUSY = 1 (20_memory.md R59, 70_reset_and_hazards.md R183). -/
def unlessBusy (s : State) (r : AccessResult) : AccessResult := if s.busy then .error .busy else r

/-- A symbol write: refused when wdata[31:8] is not zero (20_memory.md R63). -/
def symbolWrite (wdata : Word) (store : State) : AccessResult :=
  if wdata.extractLsb' 8 24 = 0#24 then wrote store else .error .data

/-- A write to CTRL: bits 0 and 1, the rest ignored (10_state.md R27). -/
def writeCtrl (wdata : Word) (s : State) : State :=
  { s with wrapSym := wdata.getLsbD 0, ie := wdata.getLsbD 1 }

/-- A write to STATUS: bit 1 clears DONE, the rest ignored (10_state.md R35). -/
def writeStatus (wdata : Word) (s : State) : State :=
  if wdata.getLsbD 1 then acknowledge s else s

/-- MemWrite(addr, 4, wdata) at an aligned address (20_memory.md R59). -/
def memWrite (a : Addr) (wdata : Word) (s : State) : AccessResult :=
  match target s.params a with
  | .unmapped => .error .unmapped
  | .id => .error .readOnly
  | .param => .error .readOnly
  | .outLen => .error .readOnly
  | .tout _ => .error .readOnly
  | .status => wrote (writeStatus wdata s)
  | .ctrl => unlessBusy s (wrote (writeCtrl wdata s))
  | .cmd => unlessBusy s (wrote (accept wdata s))
  | .shiftKey => unlessBusy s (wrote { s with shiftKey := wdata })
  | .textLen => unlessBusy s (wrote { s with textLen := min wdata.toNat s.params.textDepth })
  | .keyLen => unlessBusy s (wrote { s with keyLen := min wdata.toNat s.params.keyDepth })
  | .tin i => unlessBusy s (symbolWrite wdata (writeTin i (wdata.extractLsb' 0 8) s))
  | .key j => unlessBusy s (symbolWrite wdata (writeKey j (wdata.extractLsb' 0 8) s))

/-- A host access: the size check, the alignment check, then the read or the write (20_memory.md R57,
in the order of 60_exceptions.md R156). -/
def hostAccess (r : Request) (s : State) : AccessResult :=
  if r.size = .four then
    if r.addr.extractLsb' 0 2 = 0#2 then
      match r.kind with
      | .read => memRead r.addr s
      | .write => memWrite r.addr r.wdata s
    else .error .misaligned
  else .error .size

/-- The state after an access of `s` with this result: the response is presented, and an ERROR has no
other effect (20_memory.md R55, R60). -/
def answer (s : State) : AccessResult → State
  | .error _ => { s with response := some { resp := .error, rdata := 0#32 } }
  | .okay rdata t => { t with response := some { resp := .okay, rdata := rdata } }

/-- One access answered by the block (20_memory.md R55). -/
def serve (r : Request) (s : State) : State := answer s (hostAccess r s)

/-- One move of the outside world: a sampled rst level, or an access, which is stuck while rst = 1
(70_reset_and_hazards.md R175). -/
def hostStep (e : HostEvent) (s : State) : Host.Outcome State Fault Refusal :=
  match e with
  | .rst true => .next (resetEdge s)
  | .rst false => .next (releaseReset s)
  | .access r => if s.rst then .fault .accessDuringReset else .next (serve r s)

/-- Nothing comes before the engine's step: no move is pending, or the next one waits for the
completion (40_datapath.md R107; log entry 2). -/
def engineFirst : List Pending → Bool
  | [] => true
  | p :: _ => p.afterCompletion

/-- The engine takes the next step: a command is running, rst is 0, and nothing comes before it. -/
def engineMoves (s : State) : Bool :=
  decide (s.phase = .run) && !s.rst && engineFirst s.pending

/-- The next move is the outside world's, and with none pending an idle block does nothing
(60_exceptions.md R171; log entry 11). -/
def worldStep (s : State) : Host.Outcome State Fault Refusal :=
  match s.pending with
  | [] => .next s
  | p :: rest => hostStep p.event { s with pending := rest }

/-- Let the next pending move wait for the completion of the running command. -/
def holdPending : List Pending → List Pending
  | [] => []
  | p :: rest => { p with afterCompletion := true } :: rest

/-- The state in which the command word `w` has just been accepted and its completion is the next step
(40_datapath.md R106; log entry 8). -/
def acceptNow (w : Word) (s : State) : State :=
  { accept w s with rst := false, pending := holdPending s.pending }

end Sys2Proof.Machine
end

