-- ==== Sys2Proof/Machine/Step.lean ====
section
/-! DEFINITION. One step of the block: the engine's completion or the outside world's next move, one
total order held in the state (20_memory.md R53, R67; 40_datapath.md R107); and the state in which a
given command word is the one the next step runs. -/

namespace Sys2Proof.Machine

/-- One step (20_memory.md R53). -/
def step (s : State) : Host.Outcome State Fault Refusal :=
  if engineMoves s then engineStep s else worldStep s

/-- `s` with the word of a table row accepted, so that the very next step runs it (40_datapath.md
R106; log entry 8). -/
def State.withFetchWord (s : State) (nbits w : Nat) : State := acceptNow (tableWord nbits w) s

end Sys2Proof.Machine
end

