-- ==== Sys2Proof/Machine/HostProgram.lean ====
section
/-! DEFINITION. The host's side: the notation of host programs and its pseudo-instructions, as data and
as a run against the block (30_encoding.md R87–R89). The block executes only the accesses; labels,
branches and host variables are the host's own. -/

namespace Sys2Proof.Machine

/-- The registers by name (10_state.md R23). -/
inductive HostReg where
  | id
  | param
  | ctrl
  | cmd
  | status
  | shiftKey
  | textLen
  | keyLen
  | outLen
  deriving DecidableEq, Repr

/-- The byte address of a register (10_state.md R23). -/
def HostReg.addr : HostReg → Addr
  | .id => 0x000#16
  | .param => 0x004#16
  | .ctrl => 0x008#16
  | .cmd => 0x00C#16
  | .status => 0x010#16
  | .shiftKey => 0x014#16
  | .textLen => 0x018#16
  | .keyLen => 0x01C#16
  | .outLen => 0x020#16

/-- TIN(i) = 0x1000 + 4·i (30_encoding.md R87). A number beyond 16 bits keeps its low bits, as a value
beyond 32 bits does below (DESIGN CHOICE, log entry 13). -/
def tinAddr (i : Nat) : Addr := BitVec.ofNat 16 (0x1000 + 4 * i)

/-- KEY(j) = 0x2000 + 4·j (30_encoding.md R87). -/
def keyAddr (j : Nat) : Addr := BitVec.ofNat 16 (0x2000 + 4 * j)

/-- TOUT(i) = 0x3000 + 4·i (30_encoding.md R87). -/
def toutAddr (i : Nat) : Addr := BitVec.ofNat 16 (0x3000 + 4 * i)

/-- A value a host program writes: a word (30_encoding.md R87), or a host variable or its bits [7:0],
which COPYBACK needs (R88). -/
inductive HostValue where
  | word (w : Word)
  | var (x : String)
  | varByte (x : String)
  deriving DecidableEq, Repr

/-- A host-side condition on host variables (30_encoding.md R87). R87 does not say which conditions
`IF cond GOTO` may test; these three are the model's choice (DESIGN CHOICE, log entry 13). -/
inductive HostCond where
  | always
  | bitIs (x : String) (i : Nat) (b : Bool)
  | equals (x : String) (w : Word)
  deriving DecidableEq, Repr

/-- A statement of a host program (30_encoding.md R87); a comment has no constructor. -/
inductive HostStmt where
  /-- `WR addr, value`, with the response the program expects. -/
  | wr (addr : Addr) (value : HostValue) (expect : Resp)
  /-- `RD addr -> x`. -/
  | rd (addr : Addr) (x : String)
  /-- `label:`. -/
  | label (l : String)
  /-- `IF cond GOTO label`. -/
  | ifGoto (c : HostCond) (l : String)
  deriving DecidableEq, Repr

/-- `WR addr, value` with a plain word, OKAY expected. -/
def wrWord (a : Addr) (w : Word) : HostStmt := .wr a (.word w) .okay

/-- `CMD m` for a command word (30_encoding.md R88). -/
def cmdStmts (w : Word) : List HostStmt := [wrWord HostReg.cmd.addr w]

/-- `WAIT`, with the fresh label given (30_encoding.md R88). -/
def waitStmts (l : String) : List HostStmt :=
  [.label l, .rd HostReg.status.addr "s", .ifGoto (.bitIs "s" 0 true) l]

/-- `ACK` (30_encoding.md R88). -/
def ackStmts : List HostStmt := [wrWord HostReg.status.addr 0x2#32]

/-- `SETKEY k`, a negative number standing for its two's complement (30_encoding.md R87, R88). -/
def setKeyStmts (k : Int) : List HostStmt := [wrWord HostReg.shiftKey.addr (BitVec.ofInt 32 k)]

/-- The symbol writes `WR addr(i), c_i` of LDTEXT and LDKEY, from position `i`. -/
def loadStmts (addr : Nat → Addr) : Nat → List Nat → List HostStmt
  | _, [] => []
  | i, c :: cs => wrWord (addr i) (BitVec.ofNat 32 c) :: loadStmts addr (i + 1) cs

/-- `LDTEXT [b0, …]` (30_encoding.md R88). -/
def ldTextStmts (cs : List Nat) : List HostStmt :=
  loadStmts tinAddr 0 cs ++ [wrWord HostReg.textLen.addr (BitVec.ofNat 32 cs.length)]

/-- `LDKEY [b0, …]` (30_encoding.md R88). -/
def ldKeyStmts (cs : List Nat) : List HostStmt :=
  loadStmts keyAddr 0 cs ++ [wrWord HostReg.keyLen.addr (BitVec.ofNat 32 cs.length)]

/-- A string in double quotes stands for its characters' codes (30_encoding.md R88; log entry 13). -/
def codesOf (text : String) : List Nat := text.toList.map Char.toNat

/-- The symbol moves of COPYBACK for positions 0..n−1: `RD TOUT(i) -> w` then `WR TIN(i), w[7:0]`. -/
def copyMoves : Nat → List HostStmt
  | 0 => []
  | n + 1 => copyMoves n ++ [.rd (toutAddr n) "w", .wr (tinAddr n) (.varByte "w") .okay]

/-- `COPYBACK` for the length `n` that its first read returns (30_encoding.md R88; log entry 13). -/
def copyBackStmts (n : Nat) : List HostStmt :=
  .rd HostReg.outLen.addr "n" :: copyMoves n ++ [.wr HostReg.textLen.addr (.var "n") .okay]

/-- `RUN m` (30_encoding.md R88). -/
def runStmts (w : Word) (l : String) : List HostStmt := cmdStmts w ++ waitStmts l

/-- The host's own state: its place in the program, its variables, and whether every response so far
was the expected one. -/
structure HostThread where
  pc : Nat
  vars : List (String × Word)
  asExpected : Bool
  deriving DecidableEq, Repr

/-- A host program at its start. -/
def HostThread.start : HostThread := { pc := 0, vars := [], asExpected := true }

/-- The value of a host variable; one never read into is 0 (DESIGN CHOICE, log entry 13). -/
def hostVar : List (String × Word) → String → Word
  | [], _ => 0#32
  | (y, w) :: rest, x => if x = y then w else hostVar rest x

/-- Set a host variable. -/
def setHostVar : List (String × Word) → String → Word → List (String × Word)
  | [], x, w => [(x, w)]
  | (y, u) :: rest, x, w => if x = y then (y, w) :: rest else (y, u) :: setHostVar rest x w

/-- The word a host value stands for. -/
def hostValue (vars : List (String × Word)) : HostValue → Word
  | .word w => w
  | .var x => hostVar vars x
  | .varByte x => ((hostVar vars x).extractLsb' 0 8).zeroExtend 32

/-- Whether a host condition holds. -/
def hostCond (vars : List (String × Word)) : HostCond → Bool
  | .always => true
  | .bitIs x i b => (hostVar vars x).getLsbD i == b
  | .equals x w => hostVar vars x == w

/-- The index of a label in a program: the first place that holds it, where a program holds it twice,
and the program's end where it has none (DESIGN CHOICE, log entry 13; R87 is silent). -/
def labelIndex : List HostStmt → String → Nat
  | [], _ => 0
  | st :: rest, l => if st = .label l then 0 else labelIndex rest l + 1

/-- The request of `WR addr, w`: MemWrite(addr, 4, w) (30_encoding.md R87). -/
def writeRequest (a : Addr) (w : Word) : Request :=
  { kind := .write, addr := a, size := .four, wdata := w }

/-- The request of `RD addr`: MemRead(addr, 4) (30_encoding.md R87). -/
def readRequest (a : Addr) : Request := { kind := .read, addr := a, size := .four, wdata := 0#32 }

/-- The response the block presents; an access is always answered while rst = 0 (20_memory.md R55). -/
def lastResponse (s : State) : Response := s.response.getD { resp := .error, rdata := 0#32 }

/-- Whether a statement makes an access on the host port (30_encoding.md R87). -/
def HostStmt.isAccess : HostStmt → Bool
  | .wr _ _ _ => true
  | .rd _ _ => true
  | .label _ => false
  | .ifGoto _ _ => false

/-- One statement of a host program run against the block (30_encoding.md R87). R87 does not say what
a program does after a response it did not expect: here `asExpected` becomes false and the program goes
on with its next statement; and `RD` expects OKAY (DESIGN CHOICE, log entry 13). -/
def hostStmt (prog : List HostStmt) (st : HostStmt) (h : HostThread) (s : State) :
    HostThread × State :=
  match st with
  | .wr a v expect =>
    let t := serve (writeRequest a (hostValue h.vars v)) s
    ({ h with
        pc := h.pc + 1
        asExpected := h.asExpected && decide ((lastResponse t).resp = expect) }, t)
  | .rd a x =>
    let t := serve (readRequest a) s
    ({ pc := h.pc + 1
       vars := setHostVar h.vars x (lastResponse t).rdata
       asExpected := h.asExpected && decide ((lastResponse t).resp = .okay) }, t)
  | .label _ => ({ h with pc := h.pc + 1 }, s)
  | .ifGoto c l =>
    ({ h with pc := if hostCond h.vars c then labelIndex prog l else h.pc + 1 }, s)

/-- A host program without branches, its statements in order. -/
def runStraight : List HostStmt → HostThread → State → HostThread × State
  | [], h, s => (h, s)
  | st :: rest, h, s =>
    let r := hostStmt [] st h s
    runStraight rest r.1 r.2

/-- A host program run against the block under a schedule: at each entry, true is the engine's step
(nothing happens while no command runs) and false is the host's next statement (20_memory.md R53,
R67). While rst = 1 an access is stuck (70_reset_and_hazards.md R175), and a label or a branch, which
makes no access, goes on as always; past the program's last statement the host does nothing (DESIGN
CHOICE, log entry 13; R87 is silent). -/
def runProgram (prog : List HostStmt) : List Bool → HostThread → State →
    Host.Outcome (HostThread × State) Fault Refusal
  | [], h, s => .next (h, s)
  | true :: moves, h, s =>
    if s.phase = .run then
      match engineStep s with
      | .next t => runProgram prog moves h t
      | .fault e => .fault e
      | .refused e => .refused e
    else runProgram prog moves h s
  | false :: moves, h, s =>
    match prog[h.pc]? with
    | none => runProgram prog moves h s
    | some st =>
      if st.isAccess && s.rst then .fault .accessDuringReset
      else
        let r := hostStmt prog st h s
        runProgram prog moves r.1 r.2

end Sys2Proof.Machine
end

