-- ==== Sys2Proof/Safety.lean ====
section
/-! DEFINITION. What a safe state and a safe run are: the invariant of the reachable states, the frame
a command keeps, and the one way a step can stop (10_state.md R44, R46, R48; 40_datapath.md R106,
R107; 70_reset_and_hazards.md R175). -/

namespace Sys2Proof.Machine

/-- Every register is at its reset value (10_state.md R46): what holds while rst stays 1 (R175). -/
structure AtReset (s : State) : Prop where
  wrapSym : s.wrapSym = false
  ie : s.ie = false
  busy : s.busy = false
  done : s.done = false
  valid : s.valid = false
  oor : s.oor = false
  err : s.err = 0#4
  shiftKey : s.shiftKey = 0#32
  textLen : s.textLen = 0
  keyLen : s.keyLen = 0
  outLen : s.outLen = 0
  phase : s.phase = .idle

/-- The invariant of the block. -/
structure BlockInv (s : State) : Prop where
  /-- The parameters are legal (00_scope.md R6). -/
  params : s.params.wellFormed = true
  /-- busy = 1 exactly when phase = RUN (10_state.md R44, R48). -/
  busyIffRun : s.busy = true ↔ s.phase = .run
  /-- A running command has DONE, OOR and ERR clear (40_datapath.md R106). -/
  runningClear : s.phase = .run → s.done = false ∧ s.oor = false ∧ s.err = 0#4
  /-- Only the codes NONE, ILLEGAL_OP and KEY_EMPTY occur (60_exceptions.md R149). -/
  errLegal : s.err = 0#4 ∨ s.err = errIllegalOp ∨ s.err = errKeyEmpty
  /-- 0 ≤ text_len ≤ TEXT_DEPTH (10_state.md R48). -/
  textLen : s.textLen ≤ s.params.textDepth
  /-- 0 ≤ key_len ≤ KEY_DEPTH (10_state.md R48). -/
  keyLen : s.keyLen ≤ s.params.keyDepth
  /-- 0 ≤ out_len ≤ TEXT_DEPTH (10_state.md R48). -/
  outLen : s.outLen ≤ s.params.textDepth
  /-- POS lies in 0..TEXT_DEPTH (10_state.md R44). -/
  pos : s.pos ≤ s.params.textDepth
  /-- KPTR lies in 0..KEY_DEPTH − 1 (10_state.md R44). -/
  kptr : s.kptr < s.params.keyDepth
  /-- The buffers are in canonical form and within their depths. -/
  tin : Memory.wf s.params.textDepth s.tin
  key : Memory.wf s.params.keyDepth s.key
  tout : Memory.wf s.params.textDepth s.tout
  /-- While rst is 1 the registers stay at their reset values (70_reset_and_hazards.md R175). -/
  held : s.rst = true → AtReset s

/-- The engine's completion is the next step: a command runs, rst is 0, and no pending move comes before
the completion (40_datapath.md R107; log entry 2). -/
def EngineReady (s : State) : Prop :=
  s.phase = .run ∧ s.rst = false ∧
    (s.pending = [] ∨ ∃ p rest, s.pending = p :: rest ∧ p.afterCompletion = true)

/-- The outside world's move `p` is the next step: the engine does not come before it. -/
def WorldReady (s : State) (p : Pending) (rest : List Pending) : Prop :=
  s.pending = p :: rest ∧ (s.phase = .idle ∨ s.rst = true ∨ p.afterCompletion = false)

/-- The text lies in the alphabet (40_datapath.md R100). -/
def TextInAlphabet (s : State) : Prop :=
  ∀ i < s.textLen, Config.LB ≤ textCode s i ∧ textCode s i ≤ Config.UB

/-- A step from `s` can stop only so: rst is 1 and the next move is a host access
(70_reset_and_hazards.md R175). -/
def StuckInReset (s : State) : Prop :=
  s.rst = true ∧ ∃ p rest r, s.pending = p :: rest ∧ p.event = .access r

/-- What no command changes between acceptance and the end of its completion (60_exceptions.md R151
names it for a reserved word; the command rules of files 41 to 43 for the rest): CTRL, the lengths of
text and key, TIN and KEY read entry by entry, the latched word, and everything outside the engine. -/
structure CommandFrame (s t : State) : Prop where
  params : t.params = s.params
  wrapSym : t.wrapSym = s.wrapSym
  ie : t.ie = s.ie
  textLen : t.textLen = s.textLen
  keyLen : t.keyLen = s.keyLen
  opl : t.opl = s.opl
  rst : t.rst = s.rst
  pending : t.pending = s.pending
  response : t.response = s.response
  resetCount : t.resetCount = s.resetCount
  raceCount : t.raceCount = s.raceCount
  tin : ∀ i, readTin t i = readTin s i
  key : ∀ j, readKey t j = readKey s j

/-- The engine is idle and reports a completed command (40_datapath.md R107). -/
structure Completed (t : State) : Prop where
  busy : t.busy = false
  done : t.done = true
  phase : t.phase = .idle

/-- Every entry of TOUT reads as before. -/
def ToutKept (s t : State) : Prop := ∀ i, readTout t i = readTout s i

end Sys2Proof.Machine
end

