-- ==== Sys2Proof/Certificates/Slice0/Obligations.lean ====
section
/-! DEFINITION. The statements for the provers, from the spec's numbered rules. Each docstring names the
rules; a clause that rests on a choice of the model names its log entry. -/

open Sys2Proof Sys2Proof.Machine

/-! ## Encoding -/

/-- 30_encoding.md R84: the opcode map. Each command's word is the table's and decodes to the command,
a word that decodes to a command is that command's one word (mask 0xFFFF_FFFF), and every other word
is reserved. -/
def Obligations.DecodeAndEncodeAgree : Prop :=
  (∀ i, decode (encode i) = .instr i) ∧
  (∀ w i, decode w = .instr i → w = encode i) ∧
  encode .validate = 0x00000001#32 ∧ encode .knorm = 0x00000002#32 ∧
  encode .shenc = 0x00000003#32 ∧ encode .shdec = 0x00000004#32 ∧
  encode .rkenc = 0x00000005#32 ∧ encode .rkdec = 0x00000006#32 ∧
  (∀ w, (∃ why, decode w = .reserved why) ↔ w.toNat = 0 ∨ 7 ≤ w.toNat)

/-- 30_encoding.md R83: a word is reserved exactly when its bits [31:4] are not zero or its OP is one
OPMAP reserves; otherwise it decodes to OPMAP of its OP. -/
def Obligations.ReservedWordsByField : Prop :=
  ∀ w : Word,
    ((∃ why, decode w = .reserved why) ↔
      w.toNat / 16 ≠ 0 ∨ opMap (BitVec.ofNat 4 w.toNat) = none) ∧
    (∀ i, w.toNat / 16 = 0 → opMap (BitVec.ofNat 4 w.toNat) = some i → decode w = .instr i)

/-- 30_encoding.md R89: the six command words, written out, decode to their commands. -/
def Obligations.CommandWordsDecode : Prop :=
  decode 0x00000001#32 = .instr .validate ∧ decode 0x00000002#32 = .instr .knorm ∧
  decode 0x00000003#32 = .instr .shenc ∧ decode 0x00000004#32 = .instr .shdec ∧
  decode 0x00000005#32 = .instr .rkenc ∧ decode 0x00000006#32 = .instr .rkdec

/-! ## The step and the life of a command -/

/-- 40_datapath.md R107, R108: when the engine's step is the next one and the latched word decodes to
`i`, a step is exec of `i` at that state; nothing stands around it (log entries 2, 10). -/
def Obligations.StepRunsDecodedCommand : Prop :=
  ∀ (s : State) (i : Instr), EngineReady s → decode s.opl = .instr i → step s = exec i s

/-- 20_memory.md R53: when the outside world's move is the next one, a step takes it off the pending
list and performs it; an access is served while rst = 0 (log entry 2). -/
def Obligations.StepPerformsPendingMove : Prop :=
  ∀ (s : State) (p : Pending) (rest : List Pending), WorldReady s p rest →
    step s = hostStep p.event { s with pending := rest } ∧
    ∀ r, p.event = .access r → s.rst = false → step s = .next (serve r { s with pending := rest })

/-- 40_datapath.md R106: a size-4 write to CMD while BUSY = 0 accepts any word: OPL, PHASE, BUSY, DONE,
OOR and ERR as the rule says, everything else unchanged but the response. -/
def Obligations.CmdWriteAcceptsEveryWord : Prop :=
  ∀ (s : State) (w : Word), s.busy = false →
    serve (writeRequest 0x000C#16 w) s =
      { s with
        opl := w
        phase := .run
        busy := true
        done := false
        oor := false
        err := 0#4
        response := some { resp := .okay, rdata := 0#32 } }

/-- Log entry 8: after `withFetchWord` with a command's word the next step is that command's. -/
def Obligations.FetchedWordRunsNext : Prop :=
  ∀ (s : State) (i : Instr), EngineReady (s.withFetchWord 32 (encode i).toNat) ∧
    step (s.withFetchWord 32 (encode i).toNat) = exec i (s.withFetchWord 32 (encode i).toNat)

/-- 40_datapath.md R107: the engine's step is always a completion, whatever word is latched: BUSY = 0,
DONE = 1, PHASE = IDLE, and nothing a command may not change is changed. -/
def Obligations.EveryRunningCommandCompletes : Prop :=
  ∀ s : State, EngineReady s → ∃ t, step s = .next t ∧ Completed t ∧ CommandFrame s t

/-- 60_exceptions.md R151: a reserved word completes with ILLEGAL_OP and, apart from the status updates
of acceptance and completion, no effect. -/
def Obligations.ReservedWordCompletesIllegalOp : Prop :=
  ∀ s : State, EngineReady s →
    s.opl.toNat / 16 ≠ 0 ∨ s.opl.toNat % 16 = 0 ∨ 7 ≤ s.opl.toNat % 16 →
    ∃ t, step s = .next t ∧ t.err = 1#4 ∧ t.valid = s.valid ∧ t.outLen = s.outLen ∧
      t.oor = s.oor ∧ ToutKept s t ∧ t.shiftKey = s.shiftKey ∧ t.pos = s.pos ∧ t.kptr = s.kptr ∧
      CommandFrame s t ∧ Completed t

/-- 70_reset_and_hazards.md R190: every accepted command completes after finitely many steps, here at
most one more than the accesses that are pending, unless reset intervenes. That the pending list is
finite is the model's form of R190's fair schedule (log entry 2). -/
def Obligations.AcceptedCommandEventuallyCompletes : Prop :=
  ∀ s : State, BlockInv s → s.phase = .run → s.rst = false →
    (∀ p ∈ s.pending, ∃ r, p.event = .access r) →
    ∃ k t, k ≤ s.pending.length + 1 ∧ Sys2Proof.core.run k s = .next t ∧ Completed t

/-- 20_memory.md R70, 40_datapath.md R109: while a command runs, no access changes its operands or its
latched word, so what it will write stays the same; the command keeps running and its results are
still those from before it. -/
def Obligations.OperandsFrozenWhileBusy : Prop :=
  ∀ (s : State) (r : Request), s.busy = true →
    (serve r s).opl = s.opl ∧ (serve r s).phase = s.phase ∧ (serve r s).busy = true ∧
    (serve r s).textLen = s.textLen ∧ (serve r s).keyLen = s.keyLen ∧
    (serve r s).shiftKey = s.shiftKey ∧ (serve r s).wrapSym = s.wrapSym ∧
    (∀ i, readTin (serve r s) i = readTin s i) ∧ (∀ j, readKey (serve r s) j = readKey s j) ∧
    (∀ i, newTout (serve r s) i = newTout s i) ∧
    ToutKept s (serve r s) ∧ (serve r s).outLen = s.outLen ∧ (serve r s).valid = s.valid ∧
    (serve r s).oor = s.oor ∧ (serve r s).err = s.err

/-! ## The commands -/

/-- 41_validate.md R122: VALIDATE. -/
def Obligations.ValidateChecksTheText : Prop :=
  decode 0x00000001#32 = .instr .validate ∧
  ∀ s : State, ∃ t, exec .validate s = .next t ∧
    (t.valid = true ↔ ∀ i < s.textLen, 32 ≤ (readTin s i).toNat ∧ (readTin s i).toNat ≤ 95) ∧
    t.oor = s.oor ∧ t.err = s.err ∧ t.outLen = s.outLen ∧ t.shiftKey = s.shiftKey ∧
    ToutKept s t ∧ CommandFrame s t ∧ Completed t

/-- 42_shift.md R125, R126: KNORM leaves k mod 64 for k > 63 and k itself otherwise, and nothing else
changes. -/
def Obligations.KnormReducesFromAbove : Prop :=
  ∀ s : State, ∃ t, exec .knorm s = .next t ∧
    (63 < s.shiftKey.toInt → t.shiftKey.toInt = s.shiftKey.toInt % 64 ∧
      t.shiftKey = (s.shiftKey.extractLsb' 0 6).zeroExtend 32) ∧
    (s.shiftKey.toInt ≤ 63 → t.shiftKey = s.shiftKey) ∧
    t.valid = s.valid ∧ t.oor = s.oor ∧ t.err = s.err ∧ t.outLen = s.outLen ∧
    ToutKept s t ∧ CommandFrame s t ∧ Completed t

/-- 42_shift.md R125, R126: the loop of KNORM always ends, on every 32-bit key, with what the command
writes. -/
def Obligations.KnormMeetsItsLoop : Prop :=
  ∀ s : State, ∃ t fuel, exec .knorm s = .next t ∧
    normalizeKeyLoop fuel s.shiftKey.toInt = some t.shiftKey.toInt

/-- 42_shift.md R127: KNORM does not make a negative key non-negative, and running it twice gives the
same key as running it once. -/
def Obligations.KnormIsIdempotent : Prop :=
  ∀ s : State, ∃ t u, exec .knorm s = .next t ∧ exec .knorm (accept (encode .knorm) t) = .next u ∧
    u.shiftKey = t.shiftKey ∧ (s.shiftKey.toInt < 0 → t.shiftKey.toInt < 0)

/-- 42_shift.md R129: SHENC, with its mode by CTRL.WRAPSYM (R128). -/
def Obligations.ShencShiftsTheText : Prop :=
  decode 0x00000003#32 = .instr .shenc ∧
  ∀ s : State, ∃ t, exec .shenc s = .next t ∧
    (∀ i < s.textLen, readTout t i =
      pack (if s.wrapSym then wrap ((readTin s i).toNat + s.shiftKey.toInt)
        else wrapDown ((readTin s i).toNat + s.shiftKey.toInt))) ∧
    (∀ i, s.textLen ≤ i → readTout t i = readTout s i) ∧
    t.outLen = s.textLen ∧
    (t.oor = true ↔ ∃ i < s.textLen, (readTout t i).getLsbD 8 = true) ∧
    t.valid = s.valid ∧ t.err = s.err ∧ t.shiftKey = s.shiftKey ∧ CommandFrame s t ∧ Completed t

/-- 42_shift.md R133: SHDEC, with its mode by CTRL.WRAPSYM (R128). -/
def Obligations.ShdecUnshiftsTheText : Prop :=
  decode 0x00000004#32 = .instr .shdec ∧
  ∀ s : State, ∃ t, exec .shdec s = .next t ∧
    (∀ i < s.textLen, readTout t i =
      pack (if s.wrapSym then wrap ((readTin s i).toNat - s.shiftKey.toInt)
        else wrapUp ((readTin s i).toNat - s.shiftKey.toInt))) ∧
    (∀ i, s.textLen ≤ i → readTout t i = readTout s i) ∧
    t.outLen = s.textLen ∧
    (t.oor = true ↔ ∃ i < s.textLen, (readTout t i).getLsbD 8 = true) ∧
    t.valid = s.valid ∧ t.err = s.err ∧ t.shiftKey = s.shiftKey ∧ CommandFrame s t ∧ Completed t

/-- 42_shift.md R130: the range of SHENC's results, in FAITHFUL and in SYMMETRIC mode. -/
def Obligations.ShencOutOfRangeOnlyBelow : Prop :=
  ∀ s : State, ∃ t, exec .shenc s = .next t ∧
    (s.wrapSym = false → ∀ i < s.textLen,
      (95 < textCode s i + shiftKeyInt s → (readTout t i).getLsbD 8 = false ∧
        32 ≤ (readTout t i).toNat ∧ (readTout t i).toNat ≤ 95) ∧
      ((readTout t i).getLsbD 8 = true ↔ textCode s i + shiftKeyInt s < 32) ∧
      (32 ≤ textCode s i → (readTout t i).getLsbD 8 = true → shiftKeyInt s < 0)) ∧
    (s.wrapSym = false → TextInAlphabet s → 0 ≤ shiftKeyInt s → t.oor = false) ∧
    (s.wrapSym = true → t.oor = false ∧ ∀ i < s.textLen, (readTout t i).getLsbD 8 = false)

/-- 42_shift.md R134: the range of SHDEC's results, in FAITHFUL and in SYMMETRIC mode. -/
def Obligations.ShdecOutOfRangeOnlyAbove : Prop :=
  ∀ s : State, ∃ t, exec .shdec s = .next t ∧
    (s.wrapSym = false → ∀ i < s.textLen,
      ((readTout t i).getLsbD 8 = true ↔ 95 < textCode s i - shiftKeyInt s) ∧
      (textCode s i ≤ 95 → (readTout t i).getLsbD 8 = true → shiftKeyInt s < 0)) ∧
    (s.wrapSym = true → t.oor = false ∧ ∀ i < s.textLen, (readTout t i).getLsbD 8 = false)

/-- 42_shift.md R131 and the last sentence of R134: on an in-alphabet text with k ≥ 0, SHENC and SHDEC
give the same result with k as with the key KNORM leaves, in both modes. -/
def Obligations.NormalizingIsUnobservableOnValidText : Prop :=
  ∀ s : State, TextInAlphabet s → 0 ≤ shiftKeyInt s →
    ∃ n e e' d d', exec .knorm s = .next n ∧
      exec .shenc s = .next e ∧ exec .shenc n = .next e' ∧
      exec .shdec s = .next d ∧ exec .shdec n = .next d' ∧
      (∀ i, readTout e' i = readTout e i) ∧ e'.outLen = e.outLen ∧ e'.oor = e.oor ∧
      (∀ i, readTout d' i = readTout d i) ∧ d'.outLen = d.outLen ∧ d'.oor = d.oor

/-- 43_repeating_key.md R137 (success): RKENC on a text in the alphabet with a key. -/
def Obligations.RkencAddsTheCycledKey : Prop :=
  ∀ s : State, TextInAlphabet s → 1 ≤ s.keyLen → ∃ t, exec .rkenc s = .next t ∧
    (∀ i < s.textLen, readTout t i =
      pack (wrap ((readTin s i).toNat + (readKey s (i % s.keyLen)).toNat))) ∧
    (∀ i, s.textLen ≤ i → readTout t i = readTout s i) ∧
    t.outLen = s.textLen ∧ t.valid = true ∧ t.oor = false ∧ t.err = s.err ∧
    t.shiftKey = s.shiftKey ∧ CommandFrame s t ∧ Completed t

/-- 43_repeating_key.md R138, 60_exceptions.md R153, R157: an out-of-alphabet text gives RKENC's silent
empty result, whatever the key length. -/
def Obligations.RkencGateGivesEmptyResult : Prop :=
  ∀ s : State, ¬ TextInAlphabet s → ∃ t, exec .rkenc s = .next t ∧
    t.valid = false ∧ t.outLen = 0 ∧ t.err = s.err ∧ t.oor = s.oor ∧ ToutKept s t ∧
    t.shiftKey = s.shiftKey ∧ CommandFrame s t ∧ Completed t

/-- 43_repeating_key.md R139, 60_exceptions.md R150: RKENC with an empty key and a valid text, the empty
one too, completes with KEY_EMPTY. -/
def Obligations.RkencEmptyKeyIsKeyEmpty : Prop :=
  ∀ s : State, TextInAlphabet s → s.keyLen = 0 → ∃ t, exec .rkenc s = .next t ∧
    t.err = 2#4 ∧ t.valid = true ∧ t.outLen = 0 ∧ t.oor = s.oor ∧ ToutKept s t ∧
    t.shiftKey = s.shiftKey ∧ CommandFrame s t ∧ Completed t

/-- 43_repeating_key.md R142 (success), R143: RKDEC with a key, on any text, without validation. -/
def Obligations.RkdecSubtractsTheCycledKey : Prop :=
  ∀ s : State, 1 ≤ s.keyLen → ∃ t, exec .rkdec s = .next t ∧
    (∀ i < s.textLen, readTout t i =
      pack (wrap ((readTin s i).toNat - (readKey s (i % s.keyLen)).toNat))) ∧
    (∀ i, s.textLen ≤ i → readTout t i = readTout s i) ∧
    t.outLen = s.textLen ∧ t.valid = s.valid ∧ t.oor = false ∧ t.err = s.err ∧
    t.shiftKey = s.shiftKey ∧ CommandFrame s t ∧ Completed t

/-- 43_repeating_key.md R144: RKDEC with KEY_LEN = 0 completes with KEY_EMPTY, whatever the text. -/
def Obligations.RkdecEmptyKeyIsKeyEmpty : Prop :=
  ∀ s : State, s.keyLen = 0 → ∃ t, exec .rkdec s = .next t ∧
    t.err = 2#4 ∧ t.valid = s.valid ∧ t.outLen = 0 ∧ t.oor = s.oor ∧ ToutKept s t ∧
    t.shiftKey = s.shiftKey ∧ CommandFrame s t ∧ Completed t

/-- 43_repeating_key.md R140: every result symbol of a successful RKENC lies in [32, 95], with no OOR
bit. -/
def Obligations.RkencStaysInTheAlphabet : Prop :=
  ∀ s t : State, TextInAlphabet s → 1 ≤ s.keyLen → exec .rkenc s = .next t →
    t.oor = false ∧ ∀ i < s.textLen, (readTout t i).getLsbD 8 = false ∧
      32 ≤ ((readTout t i).extractLsb' 0 8).toNat ∧ ((readTout t i).extractLsb' 0 8).toNat ≤ 95

/-- 40_datapath.md R104: the counter KPTR equals i mod m at every position i. -/
def Obligations.KptrCountsModuloKeyLength : Prop :=
  ∀ m i, 1 ≤ m → kptrAfter m i = i % m

/-- Log entry 6 (a choice of the model): where POS and KPTR stand after each command. -/
def Obligations.HiddenCountersAfterCommands : Prop :=
  ∀ s : State,
    (∀ i t, i = .validate ∨ i = .knorm → exec i s = .next t → t.pos = s.pos ∧ t.kptr = s.kptr) ∧
    (∀ i t, i = .shenc ∨ i = .shdec → exec i s = .next t →
      t.pos = s.textLen ∧ t.kptr = s.kptr) ∧
    (∀ i t, i = .rkenc ∧ TextInAlphabet s ∨ i = .rkdec → exec i s = .next t → 1 ≤ s.keyLen →
      t.pos = s.textLen ∧ t.kptr = s.textLen % s.keyLen) ∧
    (∀ i t, i = .rkenc ∨ i = .rkdec → exec i s = .next t → s.keyLen = 0 →
      t.pos = s.pos ∧ t.kptr = s.kptr) ∧
    (∀ t, ¬ TextInAlphabet s → exec .rkenc s = .next t → t.pos = s.pos ∧ t.kptr = s.kptr)

/-- 10_state.md R40, R41 ("ignored by every command"): no command's outcome depends on TIN entries at
or beyond TEXT_LEN or on KEY entries at or beyond KEY_LEN. -/
def Obligations.CommandsIgnoreEntriesBeyondTheLengths : Prop :=
  ∀ (i : Instr) (s t : State) (m k : Memory 8),
    (∀ j < s.textLen, readTin { s with tin := m } j = readTin s j) →
    (∀ j < s.keyLen, readKey { s with key := k } j = readKey s j) →
    exec i s = .next t →
    exec i { s with tin := m, key := k } = .next { t with tin := m, key := k }

/-- 10_state.md R26 (WRAPSYM: "No effect on VALIDATE, KNORM, RKENC or RKDEC"). -/
def Obligations.WrapSymConcernsOnlyTheShiftCipher : Prop :=
  ∀ (i : Instr) (s t : State) (b : Bool), i = .validate ∨ i = .knorm ∨ i = .rkenc ∨ i = .rkdec →
    exec i s = .next t → exec i { s with wrapSym := b } = .next { t with wrapSym := b }

/-! ## The datapath -/

/-- 40_datapath.md R97: the four properties of WRAP. -/
def Obligations.WrapIsTheAlphabetRepresentative : Prop :=
  ∀ v : Int, wrap v = 32 + (v - 32) % 64 ∧ 32 ≤ wrap v ∧ wrap v ≤ 95 ∧ wrap v % 64 = v % 64 ∧
    (wrap v = v ↔ 32 ≤ v ∧ v ≤ 95) ∧ ∀ t : Int, wrap (v + 64 * t) = wrap v

/-- 40_datapath.md R98, R99: the downward and the upward loop always end, with their closed forms'
values; the closed form is WRAP on the side it guards, and a value on the other side passes through
unchanged. -/
def Obligations.OneSidedWrapsMeetTheirLoops : Prop :=
  ∀ v : Int,
    (∃ fuel, wrapDownLoop fuel v = some (wrapDown v)) ∧
    (v ≤ 95 → wrapDown v = v) ∧ (95 < v → wrapDown v = wrap v) ∧
    (∃ fuel, wrapUpLoop fuel v = some (wrapUp v)) ∧
    (32 ≤ v → wrapUp v = v) ∧ (v < 32 → wrapUp v = wrap v)

/-- 40_datapath.md R101: the two loops together end with WRAP, in either order. -/
def Obligations.WrapBothMeetsItsLoops : Prop :=
  ∀ v : Int, (∃ fuel, wrapBothLoop fuel v = some (wrap v)) ∧
    ∃ up down u, wrapUpLoop up v = some u ∧ wrapDownLoop down u = some (wrap v)

/-- 40_datapath.md R105 (informative): WRAP from the low six bits of v. -/
def Obligations.WrapNeedsOnlySixBits : Prop :=
  ∀ v : Int, wrap v = ((wrapBits (BitVec.ofInt 6 v)).toNat : Int)

/-- 40_datapath.md R103: the packing of a result. -/
def Obligations.PackHoldsSymbolAndOorBit : Prop :=
  ∀ r : Int, ((pack r).getLsbD 8 = true ↔ r < 32 ∨ 95 < r) ∧
    (((pack r).extractLsb' 0 8).toNat : Int) = r % 256 ∧
    ((pack r).getLsbD 8 = false → (((pack r).extractLsb' 0 8).toNat : Int) = r)

/-- 42_shift.md R135: the shift round trip over exact integers, for every in-alphabet symbol, every key
and both modes. -/
def Obligations.ShiftRoundTripOverIntegers : Prop :=
  ∀ c k : Int, 32 ≤ c → c ≤ 95 →
    mau (mau c k false .down) k true .up = c ∧ mau (mau c k false .both) k true .both = c

/-- 42_shift.md R136: SHENC, COPYBACK, SHDEC with the same key and mode give the in-alphabet text back
exactly when the mode is SYMMETRIC or every c_i + k ≥ 0; every access of COPYBACK is OKAY. COPYBACK is
unrolled for the length known beforehand (log entry 13). -/
def Obligations.ShiftRoundTripThroughTheBuffers : Prop :=
  ∀ s : State, BlockInv s → s.phase = .idle → TextInAlphabet s →
    ∃ t h u v, exec .shenc (accept (encode .shenc) s) = .next t ∧
      runStraight (copyBackStmts s.textLen) HostThread.start t = (h, u) ∧ h.asExpected = true ∧
      exec .shdec (accept (encode .shdec) u) = .next v ∧ v.outLen = s.textLen ∧
      ((∀ i < s.textLen, readTout v i = (readTin s i).zeroExtend 9) ↔
        s.wrapSym = true ∨ ∀ i < s.textLen, 0 ≤ textCode s i + shiftKeyInt s)

/-- 43_repeating_key.md R145: RKENC, COPYBACK, RKDEC with the same key give the in-alphabet text back,
for every key symbol. COPYBACK is unrolled for the length known beforehand (log entry 13). -/
def Obligations.RepeatingKeyRoundTripThroughTheBuffers : Prop :=
  ∀ s : State, BlockInv s → s.phase = .idle → TextInAlphabet s → 1 ≤ s.keyLen →
    ∃ t h u v, exec .rkenc (accept (encode .rkenc) s) = .next t ∧
      runStraight (copyBackStmts s.textLen) HostThread.start t = (h, u) ∧ h.asExpected = true ∧
      exec .rkdec (accept (encode .rkdec) u) = .next v ∧ v.outLen = s.textLen ∧
      ∀ i < s.textLen, readTout v i = (readTin s i).zeroExtend 9

/-! ## The host port -/

/-- 20_memory.md R57: an access of size 1 or 2, or at an address with addr[1:0] ≠ 0, gets ERROR with no
effect. -/
def Obligations.IllegalSizeOrAlignmentIsRefused : Prop :=
  ∀ (s : State) (r : Request), r.size ≠ .four ∨ r.addr.toNat % 4 ≠ 0 →
    serve r s = { s with response := some { resp := .error, rdata := 0#32 } }

/-- 20_memory.md R56: an aligned access outside the registers and the windows' words gets ERROR with no
effect. -/
def Obligations.UnmappedAddressesAreRefused : Prop :=
  ∀ (s : State) (r : Request), s.params.wellFormed = true →
    (0x24 ≤ r.addr.toNat ∧ r.addr.toNat < 0x1000) ∨
    (0x1000 + 4 * s.params.textDepth ≤ r.addr.toNat ∧ r.addr.toNat < 0x2000) ∨
    (0x2000 + 4 * s.params.keyDepth ≤ r.addr.toNat ∧ r.addr.toNat < 0x3000) ∨
    0x3000 + 4 * s.params.textDepth ≤ r.addr.toNat →
    serve r s = { s with response := some { resp := .error, rdata := 0#32 } }

/-- 20_memory.md R60, 60_exceptions.md R156: an ERROR response has read data 0 and changes nothing. -/
def Obligations.ErrorResponseHasNoEffect : Prop :=
  ∀ (s : State) (r : Request) (d : Word), (serve r s).response = some { resp := .error, rdata := d } →
    serve r s = { s with response := some { resp := .error, rdata := 0#32 } }

/-- 20_memory.md R58: what a read of each mapped location returns. No read changes any state (the race
counter and the response are the model's own, log entries 4, 7); a TOUT read is exact while BUSY = 0
and one of the old and the new value while BUSY = 1 (40_datapath.md R110). -/
def Obligations.ReadsReturnTheLocations : Prop :=
  ∀ s : State, s.params.wellFormed = true →
    (∀ a, ∃ q n, serve (readRequest a) s = { s with response := some q, raceCount := n }) ∧
    (∀ a w, (a, w) ∈ [(0x0000#16, 0x53434531#32),
        (0x0004#16, BitVec.ofNat 32 (s.params.keyDepth * 65536 + s.params.textDepth)),
        (0x0008#16, BitVec.ofNat 32 (s.ie.toNat * 2 + s.wrapSym.toNat)),
        (0x000C#16, 0#32),
        (0x0010#16, BitVec.ofNat 32 (s.err.toNat * 16 + s.oor.toNat * 8 + s.valid.toNat * 4 +
          s.done.toNat * 2 + s.busy.toNat)),
        (0x0014#16, s.shiftKey), (0x0018#16, BitVec.ofNat 32 s.textLen),
        (0x001C#16, BitVec.ofNat 32 s.keyLen), (0x0020#16, BitVec.ofNat 32 s.outLen)] →
      (serve (readRequest a) s).response = some { resp := .okay, rdata := w }) ∧
    (∀ i < s.params.textDepth, (serve (readRequest (tinAddr i)) s).response =
      some { resp := .okay, rdata := (readTin s i).zeroExtend 32 }) ∧
    (∀ j < s.params.keyDepth, (serve (readRequest (keyAddr j)) s).response =
      some { resp := .okay, rdata := (readKey s j).zeroExtend 32 }) ∧
    (∀ i < s.params.textDepth, s.busy = false → (serve (readRequest (toutAddr i)) s).response =
      some { resp := .okay, rdata := (readTout s i).zeroExtend 32 }) ∧
    (∀ i < s.params.textDepth, s.busy = true → ∃ v, (v = readTout s i ∨ v = newTout s i) ∧
      (serve (readRequest (toutAddr i)) s).response =
        some { resp := .okay, rdata := v.zeroExtend 32 })

/-- 40_datapath.md R110 (first consequence): while an RKENC whose text fails validation runs, TOUT reads
are exact. -/
def Obligations.GatedRkencReadsAreExact : Prop :=
  ∀ (s : State) (i : Nat), s.params.wellFormed = true → s.opl = 0x00000005#32 → ¬ TextInAlphabet s →
    i < s.params.textDepth →
    (serve (readRequest (toutAddr i)) s).response =
      some { resp := .okay, rdata := (readTout s i).zeroExtend 32 }

/-- 70_reset_and_hazards.md R183: while BUSY = 1, writes to CTRL, CMD, SHIFT_KEY, TEXT_LEN, KEY_LEN, TIN
and KEY get ERROR and have no effect, and a write to STATUS is not refused. -/
def Obligations.BusyWritesAreRefused : Prop :=
  ∀ (s : State) (w : Word), s.params.wellFormed = true → s.busy = true →
    (∀ a, a ∈ [0x0008#16, 0x000C#16, 0x0014#16, 0x0018#16, 0x001C#16] ∨
        (∃ i < s.params.textDepth, a = tinAddr i) ∨ (∃ j < s.params.keyDepth, a = keyAddr j) →
      serve (writeRequest a w) s = { s with response := some { resp := .error, rdata := 0#32 } }) ∧
    ∃ d, (serve (writeRequest 0x0010#16 w) s).response = some { resp := .okay, rdata := d }

/-- 20_memory.md R59 (its first case): a write to ID, PARAM, OUT_LEN or TOUT[i] gets ERROR and has no
effect. -/
def Obligations.ReadOnlyWritesAreRefused : Prop :=
  ∀ (s : State) (w : Word) (a : Addr), s.params.wellFormed = true →
    a ∈ [0x0000#16, 0x0004#16, 0x0020#16] ∨ (∃ i < s.params.textDepth, a = toutAddr i) →
    serve (writeRequest a w) s = { s with response := some { resp := .error, rdata := 0#32 } }

/-- 10_state.md R27: a CTRL write while BUSY = 0 sets WRAPSYM and IE and nothing else; while BUSY = 1 it
is refused; a read gives the two bits back. -/
def Obligations.CtrlWriteSetsItsTwoBits : Prop :=
  ∀ (s : State) (w : Word),
    (s.busy = false → serve (writeRequest 0x0008#16 w) s =
      { s with
        wrapSym := w.getLsbD 0
        ie := w.getLsbD 1
        response := some { resp := .okay, rdata := 0#32 } }) ∧
    (s.busy = true → serve (writeRequest 0x0008#16 w) s =
      { s with response := some { resp := .error, rdata := 0#32 } }) ∧
    (serve (readRequest 0x0008#16) s).response =
      some { resp := .okay, rdata := 0#30 ++ BitVec.ofBool s.ie ++ BitVec.ofBool s.wrapSym }

/-- 10_state.md R36 to R38, 70_reset_and_hazards.md R185: operand-register writes while BUSY = 0;
SHIFT_KEY takes the word, the lengths the word clamped to the depth, and nothing else changes. -/
def Obligations.OperandWritesStoreAndClamp : Prop :=
  ∀ (s : State) (w : Word), s.busy = false →
    serve (writeRequest 0x0014#16 w) s =
      { s with shiftKey := w, response := some { resp := .okay, rdata := 0#32 } } ∧
    serve (writeRequest 0x0018#16 w) s =
      { s with
        textLen := min w.toNat s.params.textDepth
        response := some { resp := .okay, rdata := 0#32 } } ∧
    serve (writeRequest 0x001C#16 w) s =
      { s with
        keyLen := min w.toNat s.params.keyDepth
        response := some { resp := .okay, rdata := 0#32 } }

/-- 10_state.md R40, R41, 20_memory.md R63: a symbol write while BUSY = 0 stores wdata[7:0] into its one
entry when wdata[31:8] = 0, every other entry reads as before, and gets ERROR with no effect when
wdata[31:8] ≠ 0. -/
def Obligations.SymbolWritesStoreOneCode : Prop :=
  ∀ (s : State) (w : Word), s.params.wellFormed = true → s.busy = false →
    (∀ i < s.params.textDepth, w.toNat < 256 →
      ∃ t, serve (writeRequest (tinAddr i) w) s = t ∧
        t = { s with tin := t.tin, response := some { resp := .okay, rdata := 0#32 } } ∧
        (readTin t i).toNat = w.toNat ∧ ∀ k, k ≠ i → readTin t k = readTin s k) ∧
    (∀ j < s.params.keyDepth, w.toNat < 256 →
      ∃ t, serve (writeRequest (keyAddr j) w) s = t ∧
        t = { s with key := t.key, response := some { resp := .okay, rdata := 0#32 } } ∧
        (readKey t j).toNat = w.toNat ∧ ∀ k, k ≠ j → readKey t k = readKey s k) ∧
    (∀ a, (∃ i < s.params.textDepth, a = tinAddr i) ∨ (∃ j < s.params.keyDepth, a = keyAddr j) →
      256 ≤ w.toNat →
      serve (writeRequest a w) s = { s with response := some { resp := .error, rdata := 0#32 } })

/-- 10_state.md R35: a STATUS write is accepted whatever BUSY is, and clears DONE exactly when its bit 1
is 1; nothing else changes. -/
def Obligations.StatusWriteClearsDone : Prop :=
  ∀ (s : State) (w : Word), serve (writeRequest 0x0010#16 w) s =
    { s with
      done := s.done && !w.getLsbD 1
      response := some { resp := .okay, rdata := 0#32 } } ∧
    (serve (readRequest 0x0010#16) s).response =
      some { resp := .okay,
             rdata := 0#24 ++ s.err ++ BitVec.ofBool s.oor ++ BitVec.ofBool s.valid ++
               BitVec.ofBool s.done ++ BitVec.ofBool s.busy }

/-- 60_exceptions.md R160, R161: irq is DONE AND IE; while DONE = 1 and BUSY = 0 a CTRL write raises or
lowers it at once and DONE keeps its value; an acknowledgement and an acceptance lower it. -/
def Obligations.IrqFollowsDoneAndEnable : Prop :=
  ∀ (s : State) (w : Word), s.irq = (s.done && s.ie) ∧
    (s.busy = false → s.done = true →
      (serve (writeRequest 0x0008#16 w) s).irq = w.getLsbD 1 ∧
      (serve (writeRequest 0x0008#16 w) s).done = true) ∧
    (w.getLsbD 1 = true → (serve (writeRequest 0x0010#16 w) s).irq = false) ∧
    (s.busy = false → (serve (writeRequest 0x000C#16 w) s).irq = false)

/-! ## Who writes what -/

/-- 10_state.md R39 ("Only the completion of SHENC, SHDEC, RKENC and RKDEC writes it") and R46: only
those completions and reset change OUT_LEN. -/
def Obligations.OnlyStringCommandsWriteOutLen : Prop :=
  ∀ s t : State, step s = .next t → t.outLen ≠ s.outLen →
    (EngineReady s ∧ (decode s.opl = .instr .shenc ∨ decode s.opl = .instr .shdec ∨
      decode s.opl = .instr .rkenc ∨ decode s.opl = .instr .rkdec)) ∨
    (∃ p rest, WorldReady s p rest ∧ p.event = .rst true)

/-- 10_state.md R32: only VALIDATE, RKENC and reset change VALID. -/
def Obligations.OnlyValidationWritesValid : Prop :=
  ∀ s t : State, step s = .next t → t.valid ≠ s.valid →
    (EngineReady s ∧ (decode s.opl = .instr .validate ∨ decode s.opl = .instr .rkenc)) ∨
    (∃ p rest, WorldReady s p rest ∧ p.event = .rst true)

/-- 10_state.md R30: BUSY is set only by an acceptance, a size-4 write to CMD, and cleared only by a
completion or by reset. -/
def Obligations.OnlyAcceptanceSetsBusy : Prop :=
  ∀ s t : State, step s = .next t →
    (s.busy = false → t.busy = true → ∃ p rest r, WorldReady s p rest ∧ p.event = .access r ∧
      r.kind = .write ∧ r.size = .four ∧ r.addr = 0x000C#16) ∧
    (s.busy = true → t.busy = false →
      EngineReady s ∨ ∃ p rest, WorldReady s p rest ∧ p.event = .rst true)

/-! ## Reset, the invariant, and where the machine stops -/

/-- 10_state.md R46, 70_reset_and_hazards.md R178: right after reset the registers are at their reset
values, irq = 0, and a command works on the empty text. -/
def Obligations.FirstCommandAfterReset : Prop :=
  AtReset State.reset ∧ ∀ s : State, AtReset s →
    s.irq = false ∧ s.wrapSym = false ∧ s.ie = false ∧ s.textLen = 0 ∧ s.keyLen = 0 ∧
    s.outLen = 0 ∧ s.shiftKey = 0#32 ∧
    (∃ t, exec .validate (accept (encode .validate) s) = .next t ∧ t.valid = true ∧ t.err = 0#4) ∧
    (∃ t, exec .shenc (accept (encode .shenc) s) = .next t ∧ t.outLen = 0 ∧ t.err = 0#4) ∧
    (∃ t, exec .shdec (accept (encode .shdec) s) = .next t ∧ t.outLen = 0 ∧ t.err = 0#4) ∧
    (∃ t, exec .rkenc (accept (encode .rkenc) s) = .next t ∧ t.valid = true ∧ t.err = 2#4) ∧
    (∃ t, exec .rkdec (accept (encode .rkdec) s) = .next t ∧ t.err = 2#4)

/-- 70_reset_and_hazards.md R175 to R177, R179: a clock edge with rst = 1 brings every register to its
reset value and abandons a running command; the buffers are drawn anew on the first such edge. A clock
edge with rst = 0 sets the sampled level to 0, so the block leaves reset, and changes nothing else (log
entry 9). -/
def Obligations.ResetEdgeResetsTheBlock : Prop :=
  (∀ s : State, hostStep (.rst false) s = .next { s with rst := false }) ∧
  ∀ (s : State) (p : Pending) (rest : List Pending), WorldReady s p rest →
    (p.event = .rst true → ∃ t, step s = .next t ∧ AtReset t ∧ t.rst = true ∧ t.params = s.params ∧
      t.pending = rest ∧
      (s.rst = false → t.resetCount = s.resetCount + 1 ∧ ∀ i,
        readTin t i = Config.drawTin t.resetCount i ∧ readKey t i = Config.drawKey t.resetCount i ∧
        readTout t i = Config.drawTout t.resetCount i)) ∧
    (p.event = .rst false → step s = .next { s with rst := false, pending := rest })

/-- 70_reset_and_hazards.md R175: while rst stays 1 the state stays at its reset values, the buffers
too. -/
def Obligations.StateHoldsWhileInReset : Prop :=
  ∀ s t : State, BlockInv s → s.rst = true → step s = .next t →
    AtReset t ∧ (∀ i, readTin t i = readTin s i ∧ readKey t i = readKey s i ∧
      readTout t i = readTout s i)

/-- 70_reset_and_hazards.md R175: a host access while rst = 1 is stuck, and a step stops in no other
way; nothing is refused. -/
def Obligations.StepStopsOnlyOnAccessInReset : Prop :=
  ∀ s : State, (step s = .fault .accessDuringReset ↔ StuckInReset s) ∧
    (¬ StuckInReset s → ∃ t, step s = .next t)

/-- 60_exceptions.md R171: an idle block with no move pending does nothing (log entry 11). -/
def Obligations.IdleBlockDoesNothing : Prop :=
  ∀ s : State, s.phase = .idle → s.pending = [] → step s = .next s

/-- 10_state.md R44, R48 and the canonical buffers: the invariant holds after reset. -/
def Obligations.ResetMeetsInvariant : Prop := BlockInv State.reset

/-- 10_state.md R44, R48 and the canonical buffers: every step keeps the invariant. -/
def Obligations.EveryStepKeepsInvariant : Prop :=
  ∀ s t : State, BlockInv s → step s = .next t → BlockInv t
end

