-- ==== Sys2Proof/Laws/State.lean ====
section
/-! SUPPORT. One lemma per field per named state update, true by rfl and tagged simp, so that no later
proof unfolds a record update. -/

namespace Sys2Proof.Machine

@[simp] theorem accept_params (w : Word) (s : State) : (accept w s).params = s.params := rfl
@[simp] theorem accept_wrapSym (w : Word) (s : State) : (accept w s).wrapSym = s.wrapSym := rfl
@[simp] theorem accept_ie (w : Word) (s : State) : (accept w s).ie = s.ie := rfl
@[simp] theorem accept_busy (w : Word) (s : State) : (accept w s).busy = true := rfl
@[simp] theorem accept_done (w : Word) (s : State) : (accept w s).done = false := rfl
@[simp] theorem accept_valid (w : Word) (s : State) : (accept w s).valid = s.valid := rfl
@[simp] theorem accept_oor (w : Word) (s : State) : (accept w s).oor = false := rfl
@[simp] theorem accept_err (w : Word) (s : State) : (accept w s).err = 0#4 := rfl
@[simp] theorem accept_shiftKey (w : Word) (s : State) : (accept w s).shiftKey = s.shiftKey := rfl
@[simp] theorem accept_textLen (w : Word) (s : State) : (accept w s).textLen = s.textLen := rfl
@[simp] theorem accept_keyLen (w : Word) (s : State) : (accept w s).keyLen = s.keyLen := rfl
@[simp] theorem accept_outLen (w : Word) (s : State) : (accept w s).outLen = s.outLen := rfl
@[simp] theorem accept_tin (w : Word) (s : State) : (accept w s).tin = s.tin := rfl
@[simp] theorem accept_key (w : Word) (s : State) : (accept w s).key = s.key := rfl
@[simp] theorem accept_tout (w : Word) (s : State) : (accept w s).tout = s.tout := rfl
@[simp] theorem accept_phase (w : Word) (s : State) : (accept w s).phase = .run := rfl
@[simp] theorem accept_opl (w : Word) (s : State) : (accept w s).opl = w := rfl
@[simp] theorem accept_pos (w : Word) (s : State) : (accept w s).pos = s.pos := rfl
@[simp] theorem accept_kptr (w : Word) (s : State) : (accept w s).kptr = s.kptr := rfl
@[simp] theorem accept_rst (w : Word) (s : State) : (accept w s).rst = s.rst := rfl
@[simp] theorem accept_pending (w : Word) (s : State) : (accept w s).pending = s.pending := rfl
@[simp] theorem accept_response (w : Word) (s : State) : (accept w s).response = s.response := rfl
@[simp] theorem accept_resetCount (w : Word) (s : State) : (accept w s).resetCount = s.resetCount := rfl
@[simp] theorem accept_raceCount (w : Word) (s : State) : (accept w s).raceCount = s.raceCount := rfl
@[simp] theorem readTin_accept (w : Word) (s : State) (i : Nat) :
    readTin (accept w s) i = readTin s i := rfl
@[simp] theorem readKey_accept (w : Word) (s : State) (i : Nat) :
    readKey (accept w s) i = readKey s i := rfl
@[simp] theorem readTout_accept (w : Word) (s : State) (i : Nat) :
    readTout (accept w s) i = readTout s i := rfl

@[simp] theorem complete_params (s : State) : (complete s).params = s.params := rfl
@[simp] theorem complete_wrapSym (s : State) : (complete s).wrapSym = s.wrapSym := rfl
@[simp] theorem complete_ie (s : State) : (complete s).ie = s.ie := rfl
@[simp] theorem complete_busy (s : State) : (complete s).busy = false := rfl
@[simp] theorem complete_done (s : State) : (complete s).done = true := rfl
@[simp] theorem complete_valid (s : State) : (complete s).valid = s.valid := rfl
@[simp] theorem complete_oor (s : State) : (complete s).oor = s.oor := rfl
@[simp] theorem complete_err (s : State) : (complete s).err = s.err := rfl
@[simp] theorem complete_shiftKey (s : State) : (complete s).shiftKey = s.shiftKey := rfl
@[simp] theorem complete_textLen (s : State) : (complete s).textLen = s.textLen := rfl
@[simp] theorem complete_keyLen (s : State) : (complete s).keyLen = s.keyLen := rfl
@[simp] theorem complete_outLen (s : State) : (complete s).outLen = s.outLen := rfl
@[simp] theorem complete_tin (s : State) : (complete s).tin = s.tin := rfl
@[simp] theorem complete_key (s : State) : (complete s).key = s.key := rfl
@[simp] theorem complete_tout (s : State) : (complete s).tout = s.tout := rfl
@[simp] theorem complete_phase (s : State) : (complete s).phase = .idle := rfl
@[simp] theorem complete_opl (s : State) : (complete s).opl = s.opl := rfl
@[simp] theorem complete_pos (s : State) : (complete s).pos = s.pos := rfl
@[simp] theorem complete_kptr (s : State) : (complete s).kptr = s.kptr := rfl
@[simp] theorem complete_rst (s : State) : (complete s).rst = s.rst := rfl
@[simp] theorem complete_pending (s : State) : (complete s).pending = s.pending := rfl
@[simp] theorem complete_response (s : State) : (complete s).response = s.response := rfl
@[simp] theorem complete_resetCount (s : State) : (complete s).resetCount = s.resetCount := rfl
@[simp] theorem complete_raceCount (s : State) : (complete s).raceCount = s.raceCount := rfl
@[simp] theorem readTin_complete (s : State) (i : Nat) :
    readTin (complete s) i = readTin s i := rfl
@[simp] theorem readKey_complete (s : State) (i : Nat) :
    readKey (complete s) i = readKey s i := rfl
@[simp] theorem readTout_complete (s : State) (i : Nat) :
    readTout (complete s) i = readTout s i := rfl

@[simp] theorem raiseCmdError_params (c : BitVec 4) (s : State) : (raiseCmdError c s).params = s.params := rfl
@[simp] theorem raiseCmdError_wrapSym (c : BitVec 4) (s : State) : (raiseCmdError c s).wrapSym = s.wrapSym := rfl
@[simp] theorem raiseCmdError_ie (c : BitVec 4) (s : State) : (raiseCmdError c s).ie = s.ie := rfl
@[simp] theorem raiseCmdError_busy (c : BitVec 4) (s : State) : (raiseCmdError c s).busy = s.busy := rfl
@[simp] theorem raiseCmdError_done (c : BitVec 4) (s : State) : (raiseCmdError c s).done = s.done := rfl
@[simp] theorem raiseCmdError_valid (c : BitVec 4) (s : State) : (raiseCmdError c s).valid = s.valid := rfl
@[simp] theorem raiseCmdError_oor (c : BitVec 4) (s : State) : (raiseCmdError c s).oor = s.oor := rfl
@[simp] theorem raiseCmdError_err (c : BitVec 4) (s : State) : (raiseCmdError c s).err = c := rfl
@[simp] theorem raiseCmdError_shiftKey (c : BitVec 4) (s : State) : (raiseCmdError c s).shiftKey = s.shiftKey := rfl
@[simp] theorem raiseCmdError_textLen (c : BitVec 4) (s : State) : (raiseCmdError c s).textLen = s.textLen := rfl
@[simp] theorem raiseCmdError_keyLen (c : BitVec 4) (s : State) : (raiseCmdError c s).keyLen = s.keyLen := rfl
@[simp] theorem raiseCmdError_outLen (c : BitVec 4) (s : State) : (raiseCmdError c s).outLen = s.outLen := rfl
@[simp] theorem raiseCmdError_tin (c : BitVec 4) (s : State) : (raiseCmdError c s).tin = s.tin := rfl
@[simp] theorem raiseCmdError_key (c : BitVec 4) (s : State) : (raiseCmdError c s).key = s.key := rfl
@[simp] theorem raiseCmdError_tout (c : BitVec 4) (s : State) : (raiseCmdError c s).tout = s.tout := rfl
@[simp] theorem raiseCmdError_phase (c : BitVec 4) (s : State) : (raiseCmdError c s).phase = s.phase := rfl
@[simp] theorem raiseCmdError_opl (c : BitVec 4) (s : State) : (raiseCmdError c s).opl = s.opl := rfl
@[simp] theorem raiseCmdError_pos (c : BitVec 4) (s : State) : (raiseCmdError c s).pos = s.pos := rfl
@[simp] theorem raiseCmdError_kptr (c : BitVec 4) (s : State) : (raiseCmdError c s).kptr = s.kptr := rfl
@[simp] theorem raiseCmdError_rst (c : BitVec 4) (s : State) : (raiseCmdError c s).rst = s.rst := rfl
@[simp] theorem raiseCmdError_pending (c : BitVec 4) (s : State) : (raiseCmdError c s).pending = s.pending := rfl
@[simp] theorem raiseCmdError_response (c : BitVec 4) (s : State) : (raiseCmdError c s).response = s.response := rfl
@[simp] theorem raiseCmdError_resetCount (c : BitVec 4) (s : State) : (raiseCmdError c s).resetCount = s.resetCount := rfl
@[simp] theorem raiseCmdError_raceCount (c : BitVec 4) (s : State) : (raiseCmdError c s).raceCount = s.raceCount := rfl
@[simp] theorem readTin_raiseCmdError (c : BitVec 4) (s : State) (i : Nat) :
    readTin (raiseCmdError c s) i = readTin s i := rfl
@[simp] theorem readKey_raiseCmdError (c : BitVec 4) (s : State) (i : Nat) :
    readKey (raiseCmdError c s) i = readKey s i := rfl
@[simp] theorem readTout_raiseCmdError (c : BitVec 4) (s : State) (i : Nat) :
    readTout (raiseCmdError c s) i = readTout s i := rfl

@[simp] theorem acknowledge_params (s : State) : (acknowledge s).params = s.params := rfl
@[simp] theorem acknowledge_wrapSym (s : State) : (acknowledge s).wrapSym = s.wrapSym := rfl
@[simp] theorem acknowledge_ie (s : State) : (acknowledge s).ie = s.ie := rfl
@[simp] theorem acknowledge_busy (s : State) : (acknowledge s).busy = s.busy := rfl
@[simp] theorem acknowledge_done (s : State) : (acknowledge s).done = false := rfl
@[simp] theorem acknowledge_valid (s : State) : (acknowledge s).valid = s.valid := rfl
@[simp] theorem acknowledge_oor (s : State) : (acknowledge s).oor = s.oor := rfl
@[simp] theorem acknowledge_err (s : State) : (acknowledge s).err = s.err := rfl
@[simp] theorem acknowledge_shiftKey (s : State) : (acknowledge s).shiftKey = s.shiftKey := rfl
@[simp] theorem acknowledge_textLen (s : State) : (acknowledge s).textLen = s.textLen := rfl
@[simp] theorem acknowledge_keyLen (s : State) : (acknowledge s).keyLen = s.keyLen := rfl
@[simp] theorem acknowledge_outLen (s : State) : (acknowledge s).outLen = s.outLen := rfl
@[simp] theorem acknowledge_tin (s : State) : (acknowledge s).tin = s.tin := rfl
@[simp] theorem acknowledge_key (s : State) : (acknowledge s).key = s.key := rfl
@[simp] theorem acknowledge_tout (s : State) : (acknowledge s).tout = s.tout := rfl
@[simp] theorem acknowledge_phase (s : State) : (acknowledge s).phase = s.phase := rfl
@[simp] theorem acknowledge_opl (s : State) : (acknowledge s).opl = s.opl := rfl
@[simp] theorem acknowledge_pos (s : State) : (acknowledge s).pos = s.pos := rfl
@[simp] theorem acknowledge_kptr (s : State) : (acknowledge s).kptr = s.kptr := rfl
@[simp] theorem acknowledge_rst (s : State) : (acknowledge s).rst = s.rst := rfl
@[simp] theorem acknowledge_pending (s : State) : (acknowledge s).pending = s.pending := rfl
@[simp] theorem acknowledge_response (s : State) : (acknowledge s).response = s.response := rfl
@[simp] theorem acknowledge_resetCount (s : State) : (acknowledge s).resetCount = s.resetCount := rfl
@[simp] theorem acknowledge_raceCount (s : State) : (acknowledge s).raceCount = s.raceCount := rfl
@[simp] theorem readTin_acknowledge (s : State) (i : Nat) :
    readTin (acknowledge s) i = readTin s i := rfl
@[simp] theorem readKey_acknowledge (s : State) (i : Nat) :
    readKey (acknowledge s) i = readKey s i := rfl
@[simp] theorem readTout_acknowledge (s : State) (i : Nat) :
    readTout (acknowledge s) i = readTout s i := rfl

@[simp] theorem releaseReset_params (s : State) : (releaseReset s).params = s.params := rfl
@[simp] theorem releaseReset_wrapSym (s : State) : (releaseReset s).wrapSym = s.wrapSym := rfl
@[simp] theorem releaseReset_ie (s : State) : (releaseReset s).ie = s.ie := rfl
@[simp] theorem releaseReset_busy (s : State) : (releaseReset s).busy = s.busy := rfl
@[simp] theorem releaseReset_done (s : State) : (releaseReset s).done = s.done := rfl
@[simp] theorem releaseReset_valid (s : State) : (releaseReset s).valid = s.valid := rfl
@[simp] theorem releaseReset_oor (s : State) : (releaseReset s).oor = s.oor := rfl
@[simp] theorem releaseReset_err (s : State) : (releaseReset s).err = s.err := rfl
@[simp] theorem releaseReset_shiftKey (s : State) : (releaseReset s).shiftKey = s.shiftKey := rfl
@[simp] theorem releaseReset_textLen (s : State) : (releaseReset s).textLen = s.textLen := rfl
@[simp] theorem releaseReset_keyLen (s : State) : (releaseReset s).keyLen = s.keyLen := rfl
@[simp] theorem releaseReset_outLen (s : State) : (releaseReset s).outLen = s.outLen := rfl
@[simp] theorem releaseReset_tin (s : State) : (releaseReset s).tin = s.tin := rfl
@[simp] theorem releaseReset_key (s : State) : (releaseReset s).key = s.key := rfl
@[simp] theorem releaseReset_tout (s : State) : (releaseReset s).tout = s.tout := rfl
@[simp] theorem releaseReset_phase (s : State) : (releaseReset s).phase = s.phase := rfl
@[simp] theorem releaseReset_opl (s : State) : (releaseReset s).opl = s.opl := rfl
@[simp] theorem releaseReset_pos (s : State) : (releaseReset s).pos = s.pos := rfl
@[simp] theorem releaseReset_kptr (s : State) : (releaseReset s).kptr = s.kptr := rfl
@[simp] theorem releaseReset_rst (s : State) : (releaseReset s).rst = false := rfl
@[simp] theorem releaseReset_pending (s : State) : (releaseReset s).pending = s.pending := rfl
@[simp] theorem releaseReset_response (s : State) : (releaseReset s).response = s.response := rfl
@[simp] theorem releaseReset_resetCount (s : State) : (releaseReset s).resetCount = s.resetCount := rfl
@[simp] theorem releaseReset_raceCount (s : State) : (releaseReset s).raceCount = s.raceCount := rfl
@[simp] theorem readTin_releaseReset (s : State) (i : Nat) :
    readTin (releaseReset s) i = readTin s i := rfl
@[simp] theorem readKey_releaseReset (s : State) (i : Nat) :
    readKey (releaseReset s) i = readKey s i := rfl
@[simp] theorem readTout_releaseReset (s : State) (i : Nat) :
    readTout (releaseReset s) i = readTout s i := rfl

@[simp] theorem writeTin_params (i : Nat) (v : Sym) (s : State) : (writeTin i v s).params = s.params := rfl
@[simp] theorem writeTin_wrapSym (i : Nat) (v : Sym) (s : State) : (writeTin i v s).wrapSym = s.wrapSym := rfl
@[simp] theorem writeTin_ie (i : Nat) (v : Sym) (s : State) : (writeTin i v s).ie = s.ie := rfl
@[simp] theorem writeTin_busy (i : Nat) (v : Sym) (s : State) : (writeTin i v s).busy = s.busy := rfl
@[simp] theorem writeTin_done (i : Nat) (v : Sym) (s : State) : (writeTin i v s).done = s.done := rfl
@[simp] theorem writeTin_valid (i : Nat) (v : Sym) (s : State) : (writeTin i v s).valid = s.valid := rfl
@[simp] theorem writeTin_oor (i : Nat) (v : Sym) (s : State) : (writeTin i v s).oor = s.oor := rfl
@[simp] theorem writeTin_err (i : Nat) (v : Sym) (s : State) : (writeTin i v s).err = s.err := rfl
@[simp] theorem writeTin_shiftKey (i : Nat) (v : Sym) (s : State) : (writeTin i v s).shiftKey = s.shiftKey := rfl
@[simp] theorem writeTin_textLen (i : Nat) (v : Sym) (s : State) : (writeTin i v s).textLen = s.textLen := rfl
@[simp] theorem writeTin_keyLen (i : Nat) (v : Sym) (s : State) : (writeTin i v s).keyLen = s.keyLen := rfl
@[simp] theorem writeTin_outLen (i : Nat) (v : Sym) (s : State) : (writeTin i v s).outLen = s.outLen := rfl
@[simp] theorem writeTin_tin (i : Nat) (v : Sym) (s : State) : (writeTin i v s).tin = Memory.write s.tin i v := rfl
@[simp] theorem writeTin_key (i : Nat) (v : Sym) (s : State) : (writeTin i v s).key = s.key := rfl
@[simp] theorem writeTin_tout (i : Nat) (v : Sym) (s : State) : (writeTin i v s).tout = s.tout := rfl
@[simp] theorem writeTin_phase (i : Nat) (v : Sym) (s : State) : (writeTin i v s).phase = s.phase := rfl
@[simp] theorem writeTin_opl (i : Nat) (v : Sym) (s : State) : (writeTin i v s).opl = s.opl := rfl
@[simp] theorem writeTin_pos (i : Nat) (v : Sym) (s : State) : (writeTin i v s).pos = s.pos := rfl
@[simp] theorem writeTin_kptr (i : Nat) (v : Sym) (s : State) : (writeTin i v s).kptr = s.kptr := rfl
@[simp] theorem writeTin_rst (i : Nat) (v : Sym) (s : State) : (writeTin i v s).rst = s.rst := rfl
@[simp] theorem writeTin_pending (i : Nat) (v : Sym) (s : State) : (writeTin i v s).pending = s.pending := rfl
@[simp] theorem writeTin_response (i : Nat) (v : Sym) (s : State) : (writeTin i v s).response = s.response := rfl
@[simp] theorem writeTin_resetCount (i : Nat) (v : Sym) (s : State) : (writeTin i v s).resetCount = s.resetCount := rfl
@[simp] theorem writeTin_raceCount (i : Nat) (v : Sym) (s : State) : (writeTin i v s).raceCount = s.raceCount := rfl
@[simp] theorem readKey_writeTin (j : Nat) (v : Sym) (s : State) (i : Nat) :
    readKey (writeTin j v s) i = readKey s i := rfl
@[simp] theorem readTout_writeTin (j : Nat) (v : Sym) (s : State) (i : Nat) :
    readTout (writeTin j v s) i = readTout s i := rfl

@[simp] theorem writeKey_params (i : Nat) (v : Sym) (s : State) : (writeKey i v s).params = s.params := rfl
@[simp] theorem writeKey_wrapSym (i : Nat) (v : Sym) (s : State) : (writeKey i v s).wrapSym = s.wrapSym := rfl
@[simp] theorem writeKey_ie (i : Nat) (v : Sym) (s : State) : (writeKey i v s).ie = s.ie := rfl
@[simp] theorem writeKey_busy (i : Nat) (v : Sym) (s : State) : (writeKey i v s).busy = s.busy := rfl
@[simp] theorem writeKey_done (i : Nat) (v : Sym) (s : State) : (writeKey i v s).done = s.done := rfl
@[simp] theorem writeKey_valid (i : Nat) (v : Sym) (s : State) : (writeKey i v s).valid = s.valid := rfl
@[simp] theorem writeKey_oor (i : Nat) (v : Sym) (s : State) : (writeKey i v s).oor = s.oor := rfl
@[simp] theorem writeKey_err (i : Nat) (v : Sym) (s : State) : (writeKey i v s).err = s.err := rfl
@[simp] theorem writeKey_shiftKey (i : Nat) (v : Sym) (s : State) : (writeKey i v s).shiftKey = s.shiftKey := rfl
@[simp] theorem writeKey_textLen (i : Nat) (v : Sym) (s : State) : (writeKey i v s).textLen = s.textLen := rfl
@[simp] theorem writeKey_keyLen (i : Nat) (v : Sym) (s : State) : (writeKey i v s).keyLen = s.keyLen := rfl
@[simp] theorem writeKey_outLen (i : Nat) (v : Sym) (s : State) : (writeKey i v s).outLen = s.outLen := rfl
@[simp] theorem writeKey_tin (i : Nat) (v : Sym) (s : State) : (writeKey i v s).tin = s.tin := rfl
@[simp] theorem writeKey_key (i : Nat) (v : Sym) (s : State) : (writeKey i v s).key = Memory.write s.key i v := rfl
@[simp] theorem writeKey_tout (i : Nat) (v : Sym) (s : State) : (writeKey i v s).tout = s.tout := rfl
@[simp] theorem writeKey_phase (i : Nat) (v : Sym) (s : State) : (writeKey i v s).phase = s.phase := rfl
@[simp] theorem writeKey_opl (i : Nat) (v : Sym) (s : State) : (writeKey i v s).opl = s.opl := rfl
@[simp] theorem writeKey_pos (i : Nat) (v : Sym) (s : State) : (writeKey i v s).pos = s.pos := rfl
@[simp] theorem writeKey_kptr (i : Nat) (v : Sym) (s : State) : (writeKey i v s).kptr = s.kptr := rfl
@[simp] theorem writeKey_rst (i : Nat) (v : Sym) (s : State) : (writeKey i v s).rst = s.rst := rfl
@[simp] theorem writeKey_pending (i : Nat) (v : Sym) (s : State) : (writeKey i v s).pending = s.pending := rfl
@[simp] theorem writeKey_response (i : Nat) (v : Sym) (s : State) : (writeKey i v s).response = s.response := rfl
@[simp] theorem writeKey_resetCount (i : Nat) (v : Sym) (s : State) : (writeKey i v s).resetCount = s.resetCount := rfl
@[simp] theorem writeKey_raceCount (i : Nat) (v : Sym) (s : State) : (writeKey i v s).raceCount = s.raceCount := rfl
@[simp] theorem readTin_writeKey (j : Nat) (v : Sym) (s : State) (i : Nat) :
    readTin (writeKey j v s) i = readTin s i := rfl
@[simp] theorem readTout_writeKey (j : Nat) (v : Sym) (s : State) (i : Nat) :
    readTout (writeKey j v s) i = readTout s i := rfl

@[simp] theorem writeCtrl_params (w : Word) (s : State) : (writeCtrl w s).params = s.params := rfl
@[simp] theorem writeCtrl_wrapSym (w : Word) (s : State) : (writeCtrl w s).wrapSym = w.getLsbD 0 := rfl
@[simp] theorem writeCtrl_ie (w : Word) (s : State) : (writeCtrl w s).ie = w.getLsbD 1 := rfl
@[simp] theorem writeCtrl_busy (w : Word) (s : State) : (writeCtrl w s).busy = s.busy := rfl
@[simp] theorem writeCtrl_done (w : Word) (s : State) : (writeCtrl w s).done = s.done := rfl
@[simp] theorem writeCtrl_valid (w : Word) (s : State) : (writeCtrl w s).valid = s.valid := rfl
@[simp] theorem writeCtrl_oor (w : Word) (s : State) : (writeCtrl w s).oor = s.oor := rfl
@[simp] theorem writeCtrl_err (w : Word) (s : State) : (writeCtrl w s).err = s.err := rfl
@[simp] theorem writeCtrl_shiftKey (w : Word) (s : State) : (writeCtrl w s).shiftKey = s.shiftKey := rfl
@[simp] theorem writeCtrl_textLen (w : Word) (s : State) : (writeCtrl w s).textLen = s.textLen := rfl
@[simp] theorem writeCtrl_keyLen (w : Word) (s : State) : (writeCtrl w s).keyLen = s.keyLen := rfl
@[simp] theorem writeCtrl_outLen (w : Word) (s : State) : (writeCtrl w s).outLen = s.outLen := rfl
@[simp] theorem writeCtrl_tin (w : Word) (s : State) : (writeCtrl w s).tin = s.tin := rfl
@[simp] theorem writeCtrl_key (w : Word) (s : State) : (writeCtrl w s).key = s.key := rfl
@[simp] theorem writeCtrl_tout (w : Word) (s : State) : (writeCtrl w s).tout = s.tout := rfl
@[simp] theorem writeCtrl_phase (w : Word) (s : State) : (writeCtrl w s).phase = s.phase := rfl
@[simp] theorem writeCtrl_opl (w : Word) (s : State) : (writeCtrl w s).opl = s.opl := rfl
@[simp] theorem writeCtrl_pos (w : Word) (s : State) : (writeCtrl w s).pos = s.pos := rfl
@[simp] theorem writeCtrl_kptr (w : Word) (s : State) : (writeCtrl w s).kptr = s.kptr := rfl
@[simp] theorem writeCtrl_rst (w : Word) (s : State) : (writeCtrl w s).rst = s.rst := rfl
@[simp] theorem writeCtrl_pending (w : Word) (s : State) : (writeCtrl w s).pending = s.pending := rfl
@[simp] theorem writeCtrl_response (w : Word) (s : State) : (writeCtrl w s).response = s.response := rfl
@[simp] theorem writeCtrl_resetCount (w : Word) (s : State) : (writeCtrl w s).resetCount = s.resetCount := rfl
@[simp] theorem writeCtrl_raceCount (w : Word) (s : State) : (writeCtrl w s).raceCount = s.raceCount := rfl
@[simp] theorem readTin_writeCtrl (w : Word) (s : State) (i : Nat) :
    readTin (writeCtrl w s) i = readTin s i := rfl
@[simp] theorem readKey_writeCtrl (w : Word) (s : State) (i : Nat) :
    readKey (writeCtrl w s) i = readKey s i := rfl
@[simp] theorem readTout_writeCtrl (w : Word) (s : State) (i : Nat) :
    readTout (writeCtrl w s) i = readTout s i := rfl

@[simp] theorem xform_params (n : Nat) (f : Nat → Int) (s : State) : (xform n f s).params = s.params := rfl
@[simp] theorem xform_wrapSym (n : Nat) (f : Nat → Int) (s : State) : (xform n f s).wrapSym = s.wrapSym := rfl
@[simp] theorem xform_ie (n : Nat) (f : Nat → Int) (s : State) : (xform n f s).ie = s.ie := rfl
@[simp] theorem xform_busy (n : Nat) (f : Nat → Int) (s : State) : (xform n f s).busy = s.busy := rfl
@[simp] theorem xform_done (n : Nat) (f : Nat → Int) (s : State) : (xform n f s).done = s.done := rfl
@[simp] theorem xform_valid (n : Nat) (f : Nat → Int) (s : State) : (xform n f s).valid = s.valid := rfl
@[simp] theorem xform_oor (n : Nat) (f : Nat → Int) (s : State) : (xform n f s).oor = anyOor n f := rfl
@[simp] theorem xform_err (n : Nat) (f : Nat → Int) (s : State) : (xform n f s).err = s.err := rfl
@[simp] theorem xform_shiftKey (n : Nat) (f : Nat → Int) (s : State) : (xform n f s).shiftKey = s.shiftKey := rfl
@[simp] theorem xform_textLen (n : Nat) (f : Nat → Int) (s : State) : (xform n f s).textLen = s.textLen := rfl
@[simp] theorem xform_keyLen (n : Nat) (f : Nat → Int) (s : State) : (xform n f s).keyLen = s.keyLen := rfl
@[simp] theorem xform_outLen (n : Nat) (f : Nat → Int) (s : State) : (xform n f s).outLen = n := rfl
@[simp] theorem xform_tin (n : Nat) (f : Nat → Int) (s : State) : (xform n f s).tin = s.tin := rfl
@[simp] theorem xform_key (n : Nat) (f : Nat → Int) (s : State) : (xform n f s).key = s.key := rfl
@[simp] theorem xform_tout (n : Nat) (f : Nat → Int) (s : State) : (xform n f s).tout = writeResults n f s.tout := rfl
@[simp] theorem xform_phase (n : Nat) (f : Nat → Int) (s : State) : (xform n f s).phase = s.phase := rfl
@[simp] theorem xform_opl (n : Nat) (f : Nat → Int) (s : State) : (xform n f s).opl = s.opl := rfl
@[simp] theorem xform_pos (n : Nat) (f : Nat → Int) (s : State) : (xform n f s).pos = n := rfl
@[simp] theorem xform_kptr (n : Nat) (f : Nat → Int) (s : State) : (xform n f s).kptr = s.kptr := rfl
@[simp] theorem xform_rst (n : Nat) (f : Nat → Int) (s : State) : (xform n f s).rst = s.rst := rfl
@[simp] theorem xform_pending (n : Nat) (f : Nat → Int) (s : State) : (xform n f s).pending = s.pending := rfl
@[simp] theorem xform_response (n : Nat) (f : Nat → Int) (s : State) : (xform n f s).response = s.response := rfl
@[simp] theorem xform_resetCount (n : Nat) (f : Nat → Int) (s : State) : (xform n f s).resetCount = s.resetCount := rfl
@[simp] theorem xform_raceCount (n : Nat) (f : Nat → Int) (s : State) : (xform n f s).raceCount = s.raceCount := rfl
@[simp] theorem readTin_xform (n : Nat) (f : Nat → Int) (s : State) (i : Nat) :
    readTin (xform n f s) i = readTin s i := rfl
@[simp] theorem readKey_xform (n : Nat) (f : Nat → Int) (s : State) (i : Nat) :
    readKey (xform n f s) i = readKey s i := rfl

@[simp] theorem xformKeyed_params (n : Nat) (f : Nat → Int) (s : State) : (xformKeyed n f s).params = s.params := rfl
@[simp] theorem xformKeyed_wrapSym (n : Nat) (f : Nat → Int) (s : State) : (xformKeyed n f s).wrapSym = s.wrapSym := rfl
@[simp] theorem xformKeyed_ie (n : Nat) (f : Nat → Int) (s : State) : (xformKeyed n f s).ie = s.ie := rfl
@[simp] theorem xformKeyed_busy (n : Nat) (f : Nat → Int) (s : State) : (xformKeyed n f s).busy = s.busy := rfl
@[simp] theorem xformKeyed_done (n : Nat) (f : Nat → Int) (s : State) : (xformKeyed n f s).done = s.done := rfl
@[simp] theorem xformKeyed_valid (n : Nat) (f : Nat → Int) (s : State) : (xformKeyed n f s).valid = s.valid := rfl
@[simp] theorem xformKeyed_oor (n : Nat) (f : Nat → Int) (s : State) : (xformKeyed n f s).oor = anyOor n f := rfl
@[simp] theorem xformKeyed_err (n : Nat) (f : Nat → Int) (s : State) : (xformKeyed n f s).err = s.err := rfl
@[simp] theorem xformKeyed_shiftKey (n : Nat) (f : Nat → Int) (s : State) : (xformKeyed n f s).shiftKey = s.shiftKey := rfl
@[simp] theorem xformKeyed_textLen (n : Nat) (f : Nat → Int) (s : State) : (xformKeyed n f s).textLen = s.textLen := rfl
@[simp] theorem xformKeyed_keyLen (n : Nat) (f : Nat → Int) (s : State) : (xformKeyed n f s).keyLen = s.keyLen := rfl
@[simp] theorem xformKeyed_outLen (n : Nat) (f : Nat → Int) (s : State) : (xformKeyed n f s).outLen = n := rfl
@[simp] theorem xformKeyed_tin (n : Nat) (f : Nat → Int) (s : State) : (xformKeyed n f s).tin = s.tin := rfl
@[simp] theorem xformKeyed_key (n : Nat) (f : Nat → Int) (s : State) : (xformKeyed n f s).key = s.key := rfl
@[simp] theorem xformKeyed_tout (n : Nat) (f : Nat → Int) (s : State) : (xformKeyed n f s).tout = writeResults n f s.tout := rfl
@[simp] theorem xformKeyed_phase (n : Nat) (f : Nat → Int) (s : State) : (xformKeyed n f s).phase = s.phase := rfl
@[simp] theorem xformKeyed_opl (n : Nat) (f : Nat → Int) (s : State) : (xformKeyed n f s).opl = s.opl := rfl
@[simp] theorem xformKeyed_pos (n : Nat) (f : Nat → Int) (s : State) : (xformKeyed n f s).pos = n := rfl
@[simp] theorem xformKeyed_kptr (n : Nat) (f : Nat → Int) (s : State) : (xformKeyed n f s).kptr = kptrAfter s.keyLen n := rfl
@[simp] theorem xformKeyed_rst (n : Nat) (f : Nat → Int) (s : State) : (xformKeyed n f s).rst = s.rst := rfl
@[simp] theorem xformKeyed_pending (n : Nat) (f : Nat → Int) (s : State) : (xformKeyed n f s).pending = s.pending := rfl
@[simp] theorem xformKeyed_response (n : Nat) (f : Nat → Int) (s : State) : (xformKeyed n f s).response = s.response := rfl
@[simp] theorem xformKeyed_resetCount (n : Nat) (f : Nat → Int) (s : State) : (xformKeyed n f s).resetCount = s.resetCount := rfl
@[simp] theorem xformKeyed_raceCount (n : Nat) (f : Nat → Int) (s : State) : (xformKeyed n f s).raceCount = s.raceCount := rfl
@[simp] theorem readTin_xformKeyed (n : Nat) (f : Nat → Int) (s : State) (i : Nat) :
    readTin (xformKeyed n f s) i = readTin s i := rfl
@[simp] theorem readKey_xformKeyed (n : Nat) (f : Nat → Int) (s : State) (i : Nat) :
    readKey (xformKeyed n f s) i = readKey s i := rfl

@[simp] theorem keyEmpty_params (s : State) : (keyEmpty s).params = s.params := rfl
@[simp] theorem keyEmpty_wrapSym (s : State) : (keyEmpty s).wrapSym = s.wrapSym := rfl
@[simp] theorem keyEmpty_ie (s : State) : (keyEmpty s).ie = s.ie := rfl
@[simp] theorem keyEmpty_busy (s : State) : (keyEmpty s).busy = s.busy := rfl
@[simp] theorem keyEmpty_done (s : State) : (keyEmpty s).done = s.done := rfl
@[simp] theorem keyEmpty_valid (s : State) : (keyEmpty s).valid = s.valid := rfl
@[simp] theorem keyEmpty_oor (s : State) : (keyEmpty s).oor = s.oor := rfl
@[simp] theorem keyEmpty_err (s : State) : (keyEmpty s).err = errKeyEmpty := rfl
@[simp] theorem keyEmpty_shiftKey (s : State) : (keyEmpty s).shiftKey = s.shiftKey := rfl
@[simp] theorem keyEmpty_textLen (s : State) : (keyEmpty s).textLen = s.textLen := rfl
@[simp] theorem keyEmpty_keyLen (s : State) : (keyEmpty s).keyLen = s.keyLen := rfl
@[simp] theorem keyEmpty_outLen (s : State) : (keyEmpty s).outLen = 0 := rfl
@[simp] theorem keyEmpty_tin (s : State) : (keyEmpty s).tin = s.tin := rfl
@[simp] theorem keyEmpty_key (s : State) : (keyEmpty s).key = s.key := rfl
@[simp] theorem keyEmpty_tout (s : State) : (keyEmpty s).tout = s.tout := rfl
@[simp] theorem keyEmpty_phase (s : State) : (keyEmpty s).phase = s.phase := rfl
@[simp] theorem keyEmpty_opl (s : State) : (keyEmpty s).opl = s.opl := rfl
@[simp] theorem keyEmpty_pos (s : State) : (keyEmpty s).pos = s.pos := rfl
@[simp] theorem keyEmpty_kptr (s : State) : (keyEmpty s).kptr = s.kptr := rfl
@[simp] theorem keyEmpty_rst (s : State) : (keyEmpty s).rst = s.rst := rfl
@[simp] theorem keyEmpty_pending (s : State) : (keyEmpty s).pending = s.pending := rfl
@[simp] theorem keyEmpty_response (s : State) : (keyEmpty s).response = s.response := rfl
@[simp] theorem keyEmpty_resetCount (s : State) : (keyEmpty s).resetCount = s.resetCount := rfl
@[simp] theorem keyEmpty_raceCount (s : State) : (keyEmpty s).raceCount = s.raceCount := rfl
@[simp] theorem readTin_keyEmpty (s : State) (i : Nat) :
    readTin (keyEmpty s) i = readTin s i := rfl
@[simp] theorem readKey_keyEmpty (s : State) (i : Nat) :
    readKey (keyEmpty s) i = readKey s i := rfl
@[simp] theorem readTout_keyEmpty (s : State) (i : Nat) :
    readTout (keyEmpty s) i = readTout s i := rfl

/-! The reset edge, field by field where it has a plain value. -/

@[simp] theorem resetEdge_params (s : State) : (resetEdge s).params = s.params := rfl
@[simp] theorem resetEdge_wrapSym (s : State) : (resetEdge s).wrapSym = false := rfl
@[simp] theorem resetEdge_ie (s : State) : (resetEdge s).ie = false := rfl
@[simp] theorem resetEdge_busy (s : State) : (resetEdge s).busy = false := rfl
@[simp] theorem resetEdge_done (s : State) : (resetEdge s).done = false := rfl
@[simp] theorem resetEdge_valid (s : State) : (resetEdge s).valid = false := rfl
@[simp] theorem resetEdge_oor (s : State) : (resetEdge s).oor = false := rfl
@[simp] theorem resetEdge_err (s : State) : (resetEdge s).err = 0#4 := rfl
@[simp] theorem resetEdge_shiftKey (s : State) : (resetEdge s).shiftKey = 0#32 := rfl
@[simp] theorem resetEdge_textLen (s : State) : (resetEdge s).textLen = 0 := rfl
@[simp] theorem resetEdge_keyLen (s : State) : (resetEdge s).keyLen = 0 := rfl
@[simp] theorem resetEdge_outLen (s : State) : (resetEdge s).outLen = 0 := rfl
@[simp] theorem resetEdge_phase (s : State) : (resetEdge s).phase = .idle := rfl
@[simp] theorem resetEdge_opl (s : State) : (resetEdge s).opl = 0#32 := rfl
@[simp] theorem resetEdge_pos (s : State) : (resetEdge s).pos = 0 := rfl
@[simp] theorem resetEdge_kptr (s : State) : (resetEdge s).kptr = 0 := rfl
@[simp] theorem resetEdge_rst (s : State) : (resetEdge s).rst = true := rfl
@[simp] theorem resetEdge_pending (s : State) : (resetEdge s).pending = s.pending := rfl
@[simp] theorem resetEdge_response (s : State) : (resetEdge s).response = none := rfl
@[simp] theorem resetEdge_raceCount (s : State) : (resetEdge s).raceCount = s.raceCount := rfl

/-- The first edge with rst = 1 forgets every buffer entry and opens a new draw. -/
theorem resetEdge_first {s : State} (h : s.rst = false) :
    (resetEdge s).tin = [] ∧ (resetEdge s).key = [] ∧ (resetEdge s).tout = [] ∧
      (resetEdge s).resetCount = s.resetCount + 1 := by
  simp [resetEdge, h]

/-- A further edge with rst = 1 keeps the buffers. -/
theorem resetEdge_held {s : State} (h : s.rst = true) :
    (resetEdge s).tin = s.tin ∧ (resetEdge s).key = s.key ∧ (resetEdge s).tout = s.tout ∧
      (resetEdge s).resetCount = s.resetCount := by
  simp [resetEdge, h]

end Sys2Proof.Machine
end

