-- ==== Sys2Proof/Laws/Memory.lean ====
section
/-! SUPPORT. The laws of the sparse buffers: read after write, other entries unchanged, the canonical
form kept; and the same for the entries of TIN, KEY and TOUT and for the position loop. -/

namespace Sys2Proof.Machine

section
variable {w : Nat}

@[simp] theorem lookup_nil (i : Nat) : Memory.lookup ([] : Memory w) i = none := rfl

theorem lookup_write_same (m : Memory w) (i : Nat) (v : BitVec w) :
    Memory.lookup (Memory.write m i v) i = some v := by
  induction m with
  | nil => simp [Memory.write, Memory.lookup]
  | cons c rest ih =>
    obtain ⟨j, u⟩ := c
    simp only [Memory.write]
    split_ifs with h1 h2
    · simp [Memory.lookup]
    · simp [Memory.lookup]
    · simp [Memory.lookup, h2, ih]

theorem lookup_write_other (m : Memory w) {i k : Nat} (v : BitVec w) (h : k ≠ i) :
    Memory.lookup (Memory.write m i v) k = Memory.lookup m k := by
  induction m with
  | nil => simp [Memory.write, Memory.lookup, h]
  | cons c rest ih =>
    obtain ⟨j, u⟩ := c
    simp only [Memory.write]
    split_ifs with h1 h2
    · simp [Memory.lookup, h]
    · subst h2
      simp [Memory.lookup, h]
    · simp [Memory.lookup, ih]

/-- The indices of a written buffer are those it had and the written one. -/
theorem mem_write_index {m : Memory w} {i : Nat} {v : BitVec w} {c : Nat × BitVec w}
    (h : c ∈ Memory.write m i v) : c.1 = i ∨ c ∈ m := by
  induction m with
  | nil => simp [Memory.write] at h; simp [h]
  | cons d rest ih =>
    obtain ⟨j, u⟩ := d
    simp only [Memory.write] at h
    split_ifs at h with h1 h2
    · rcases List.mem_cons.1 h with rfl | h <;> simp_all
    · rcases List.mem_cons.1 h with rfl | h <;> simp_all
    · rcases List.mem_cons.1 h with rfl | h
      · simp
      · rcases ih h with h | h <;> simp [h]

/-- A write below the depth keeps the canonical form. -/
theorem write_wf {d : Nat} {m : Memory w} {i : Nat} (v : BitVec w) (hm : Memory.wf d m)
    (hi : i < d) : Memory.wf d (Memory.write m i v) := by
  refine ⟨?_, fun c hc => ?_⟩
  · obtain ⟨hp, -⟩ := hm
    induction m with
    | nil => simp [Memory.write]
    | cons c rest ih =>
      obtain ⟨j, u⟩ := c
      rw [List.pairwise_cons] at hp
      simp only [Memory.write]
      split_ifs with h1 h2
      · refine List.pairwise_cons.2 ⟨fun a ha => ?_, List.pairwise_cons.2 hp⟩
        rcases List.mem_cons.1 ha with rfl | ha
        · exact h1
        · exact lt_trans h1 (hp.1 a ha)
      · subst h2
        exact List.pairwise_cons.2 hp
      · refine List.pairwise_cons.2 ⟨fun a ha => ?_, ih hp.2⟩
        rcases mem_write_index ha with ha | ha
        · show j < a.1
          omega
        · exact hp.1 a ha
  · rcases mem_write_index hc with h | h
    · omega
    · exact hm.2 c h

theorem nil_wf (d : Nat) : Memory.wf d ([] : Memory w) := by simp [Memory.wf]

end

@[simp] theorem readTin_writeTin_same (i : Nat) (v : Sym) (s : State) :
    readTin (writeTin i v s) i = v := by
  simp [readTin, lookup_write_same]

theorem readTin_writeTin_other {i k : Nat} (v : Sym) (s : State) (h : k ≠ i) :
    readTin (writeTin i v s) k = readTin s k := by
  simp [readTin, lookup_write_other _ v h]

@[simp] theorem readKey_writeKey_same (j : Nat) (v : Sym) (s : State) :
    readKey (writeKey j v s) j = v := by
  simp [readKey, lookup_write_same]

theorem readKey_writeKey_other {j k : Nat} (v : Sym) (s : State) (h : k ≠ j) :
    readKey (writeKey j v s) k = readKey s k := by
  simp [readKey, lookup_write_other _ v h]

/-- The position loop writes PACK(f(i)) to every entry below n (40_datapath.md R111). -/
theorem lookup_writeResults_below {n i : Nat} (f : Nat → Int) (m : Memory 9) (h : i < n) :
    Memory.lookup (writeResults n f m) i = some (pack (f i)) := by
  induction n with
  | zero => omega
  | succ n ih =>
    rcases eq_or_ne i n with rfl | hne
    · exact lookup_write_same _ _ _
    · exact (lookup_write_other _ _ hne).trans (ih (by omega))

/-- The position loop leaves every entry from n on (40_datapath.md R113). -/
theorem lookup_writeResults_beyond {n i : Nat} (f : Nat → Int) (m : Memory 9) (h : n ≤ i) :
    Memory.lookup (writeResults n f m) i = Memory.lookup m i := by
  induction n with
  | zero => rfl
  | succ n ih => exact (lookup_write_other _ _ (by omega)).trans (ih (by omega))

theorem writeResults_wf {d n : Nat} (f : Nat → Int) {m : Memory 9} (hm : Memory.wf d m)
    (h : n ≤ d) : Memory.wf d (writeResults n f m) := by
  induction n with
  | zero => exact hm
  | succ n ih => exact write_wf _ (ih (by omega)) (by omega)

theorem readTout_xform_below {n i : Nat} (f : Nat → Int) (s : State) (h : i < n) :
    readTout (xform n f s) i = pack (f i) := by
  simp [readTout, lookup_writeResults_below f _ h]

theorem readTout_xform_beyond {n i : Nat} (f : Nat → Int) (s : State) (h : n ≤ i) :
    readTout (xform n f s) i = readTout s i := by
  simp [readTout, lookup_writeResults_beyond f _ h]

theorem readTout_xformKeyed_below {n i : Nat} (f : Nat → Int) (s : State) (h : i < n) :
    readTout (xformKeyed n f s) i = pack (f i) := by
  simp [readTout, lookup_writeResults_below f _ h]

theorem readTout_xformKeyed_beyond {n i : Nat} (f : Nat → Int) (s : State) (h : n ≤ i) :
    readTout (xformKeyed n f s) i = readTout s i := by
  simp [readTout, lookup_writeResults_beyond f _ h]

/-- The OR of the OOR bits, as a statement about the results (10_state.md R33). -/
theorem anyOor_iff (n : Nat) (f : Nat → Int) :
    anyOor n f = true ↔ ∃ i < n, f i < Config.LB ∨ Config.UB < f i := by
  have one (r : Int) : oorBit r = true ↔ r < Config.LB ∨ Config.UB < r := by
    simp only [oorBit, vsym, Bool.not_eq_true', decide_eq_false_iff_not]
    omega
  simp [anyOor, one]

/-- ALLVALID, as a statement about the symbols (40_datapath.md R100). -/
theorem allValid_iff (n : Nat) (s : State) :
    allValid n s = true ↔
      ∀ i < n, Config.LB ≤ textCode s i ∧ textCode s i ≤ Config.UB := by
  simp [allValid, vsym]

end Sys2Proof.Machine
end

