-- ==== Sys2Proof/Laws/Datapath.lean ====
section
/-! SUPPORT. The datapath in plain arithmetic: each definition as the linear and modular expression that
omega decides, and what PACK's two fields are. -/

namespace Sys2Proof.Machine

theorem wrap_eq (v : Int) : wrap v = 32 + (v - 32) % 64 := rfl

theorem wrapDown_eq (v : Int) : wrapDown v = if v > 95 then 32 + (v - 32) % 64 else v := rfl

theorem wrapUp_eq (v : Int) : wrapUp v = if v < 32 then 32 + (v - 32) % 64 else v := rfl

theorem normalizeKey_eq (k : Int) : normalizeKey k = if k > 63 then k % 64 else k := rfl

theorem vsym_iff (c : Int) : vsym c = true ↔ 32 ≤ c ∧ c ≤ 95 := by
  exact decide_eq_true_iff

theorem oorBit_iff (r : Int) : oorBit r = true ↔ r < 32 ∨ 95 < r := by
  rw [oorBit, Bool.not_eq_true', Bool.eq_false_iff, Ne, vsym_iff]
  omega

theorem oorBit_eq_false_iff (r : Int) : oorBit r = false ↔ 32 ≤ r ∧ r ≤ 95 := by
  simp [oorBit, vsym_iff]

/-- Bit 8 of a packed result is its OOR bit (40_datapath.md R103). -/
theorem pack_oor (r : Int) : (pack r).getLsbD 8 = oorBit r := by
  rw [pack, BitVec.getLsbD_append]
  simp

/-- The symbol of a packed result is r mod 256 (40_datapath.md R103). -/
theorem pack_sym (r : Int) : ((pack r).extractLsb' 0 8).toNat = (r % 256).toNat := by
  have h : (pack r).extractLsb' 0 8 = BitVec.ofInt 8 r := by
    ext i hi
    rw [BitVec.getElem_extractLsb', pack, BitVec.getLsbD_append]
    simp [hi]
  rw [h, BitVec.toNat_ofInt]
  rfl

/-- A result in the alphabet is packed as the plain symbol. -/
theorem pack_inAlphabet {r : Int} (h : 32 ≤ r ∧ r ≤ 95) : pack r = BitVec.ofInt 9 r := by
  obtain ⟨n, rfl⟩ := Int.eq_ofNat_of_zero_le (show 0 ≤ r by omega)
  have hb : oorBit (n : Int) = false := (oorBit_eq_false_iff _).2 h
  apply BitVec.eq_of_toNat_eq
  simp only [pack, hb, BitVec.toNat_append, BitVec.toNat_ofInt]
  simp
  omega

/-- A text symbol is an 8-bit code (10_state.md R21). -/
theorem textCode_range (s : State) (i : Nat) : 0 ≤ textCode s i ∧ textCode s i ≤ 255 := by
  have := (readTin s i).isLt
  simp only [textCode]
  omega

/-- A key symbol is an 8-bit code (10_state.md R41). -/
theorem ksym_range (s : State) (i : Nat) : 0 ≤ ksym s i ∧ ksym s i ≤ 255 := by
  have := (readKey s (i % s.keyLen)).isLt
  simp only [ksym, keyCode]
  omega

/-- The shift key is a 32-bit two's-complement integer (10_state.md R36). -/
theorem shiftKeyInt_range (s : State) :
    -2147483648 ≤ shiftKeyInt s ∧ shiftKeyInt s ≤ 2147483647 := by
  have h1 := BitVec.le_toInt s.shiftKey
  have h2 := BitVec.toInt_le (x := s.shiftKey)
  simp only [shiftKeyInt]
  norm_num at h1 h2
  omega

end Sys2Proof.Machine
end

