-- ==== Sys2Proof/Laws/Commands.lean ====
section
/-! SUPPORT. What the shared command operations keep: the frame of a command is reflexive and
transitive, and every operation a meaning is made of is inside it. -/

namespace Sys2Proof.Machine

theorem CommandFrame.refl (s : State) : CommandFrame s s := by
  constructor <;> first | rfl | exact fun _ => rfl

theorem CommandFrame.trans {s t u : State} (h : CommandFrame s t) (k : CommandFrame t u) :
    CommandFrame s u where
  params := k.params.trans h.params
  wrapSym := k.wrapSym.trans h.wrapSym
  ie := k.ie.trans h.ie
  textLen := k.textLen.trans h.textLen
  keyLen := k.keyLen.trans h.keyLen
  opl := k.opl.trans h.opl
  rst := k.rst.trans h.rst
  pending := k.pending.trans h.pending
  response := k.response.trans h.response
  resetCount := k.resetCount.trans h.resetCount
  raceCount := k.raceCount.trans h.raceCount
  tin i := (k.tin i).trans (h.tin i)
  key j := (k.key j).trans (h.key j)

theorem complete_frame (s : State) : CommandFrame s (complete s) := by
  constructor <;> first | rfl | exact fun _ => rfl

theorem complete_completed (s : State) : Completed (complete s) := ⟨rfl, rfl, rfl⟩

theorem raiseCmdError_frame (c : BitVec 4) (s : State) : CommandFrame s (raiseCmdError c s) := by
  constructor <;> first | rfl | exact fun _ => rfl

theorem xform_frame (n : Nat) (f : Nat → Int) (s : State) : CommandFrame s (xform n f s) := by
  constructor <;> first | rfl | exact fun _ => rfl

theorem xformKeyed_frame (n : Nat) (f : Nat → Int) (s : State) :
    CommandFrame s (xformKeyed n f s) := by
  constructor <;> first | rfl | exact fun _ => rfl

theorem keyEmpty_frame (s : State) : CommandFrame s (keyEmpty s) := by
  constructor <;> first | rfl | exact fun _ => rfl

/-- RKENC by the first check that applies (60_exceptions.md R157). -/
theorem rkencBody_cases (s : State) :
    (allValid s.textLen s = false ∧ rkencBody s = { s with valid := false, outLen := 0 }) ∨
    (allValid s.textLen s = true ∧ s.keyLen = 0 ∧
      rkencBody s = keyEmpty { s with valid := true }) ∨
    (allValid s.textLen s = true ∧ s.keyLen ≠ 0 ∧
      rkencBody s = xformKeyed s.textLen (rkencResult s) { s with valid := true }) := by
  unfold rkencBody
  split_ifs with h1 h2 <;> simp_all

/-- RKDEC by the first check that applies (60_exceptions.md R157). -/
theorem rkdecBody_cases (s : State) :
    (s.keyLen = 0 ∧ rkdecBody s = keyEmpty s) ∨
    (s.keyLen ≠ 0 ∧ rkdecBody s = xformKeyed s.textLen (rkdecResult s) s) := by
  unfold rkdecBody
  split_ifs with h <;> simp_all

end Sys2Proof.Machine
end

