-- ==== Sys2Proof/Laws/PerInstr.lean ====
section
/-! SUPPORT. Statements about every command as syntax, one lemma per constructor: a command is well
formed, its word's MBZ field is zero and its OP field is its code (30_encoding.md R80, R84). -/

namespace Sys2Proof.Laws.CommandWord

/-- The fields of a command's word. -/
def Statement (i : Instr) : Prop :=
  i.wellFormed = true ∧ mbzField (encode i) = 0#28 ∧ opField (encode i) = opCode i

theorem validate : Statement .validate := ⟨rfl, rfl, rfl⟩
theorem knorm : Statement .knorm := ⟨rfl, rfl, rfl⟩
theorem shenc : Statement .shenc := ⟨rfl, rfl, rfl⟩
theorem shdec : Statement .shdec := ⟨rfl, rfl, rfl⟩
theorem rkenc : Statement .rkenc := ⟨rfl, rfl, rfl⟩
theorem rkdec : Statement .rkdec := ⟨rfl, rfl, rfl⟩

end Sys2Proof.Laws.CommandWord
end

