-- ==== Sys2Proof/Laws/Port.lean ====
section
/-! SUPPORT. The host port: where each address leads, what an access can do to the state, and what a
served access leaves. -/

namespace Sys2Proof.Machine

/-! The registers (10_state.md R23). -/

@[simp] theorem target_id (p : Params) : target p HostReg.id.addr = .id := rfl
@[simp] theorem target_param (p : Params) : target p HostReg.param.addr = .param := rfl
@[simp] theorem target_ctrl (p : Params) : target p HostReg.ctrl.addr = .ctrl := rfl
@[simp] theorem target_cmd (p : Params) : target p HostReg.cmd.addr = .cmd := rfl
@[simp] theorem target_status (p : Params) : target p HostReg.status.addr = .status := rfl
@[simp] theorem target_shiftKey (p : Params) : target p HostReg.shiftKey.addr = .shiftKey := rfl
@[simp] theorem target_textLen (p : Params) : target p HostReg.textLen.addr = .textLen := rfl
@[simp] theorem target_keyLen (p : Params) : target p HostReg.keyLen.addr = .keyLen := rfl
@[simp] theorem target_outLen (p : Params) : target p HostReg.outLen.addr = .outLen := rfl

/-- The two depths of legal parameters (00_scope.md R6). -/
theorem depths_of_wellFormed {p : Params} (h : p.wellFormed = true) :
    1 ≤ p.textDepth ∧ p.textDepth ≤ 1024 ∧ 1 ≤ p.keyDepth ∧ p.keyDepth ≤ 1024 := by
  simp only [Params.wellFormed, depthOk, Bool.and_eq_true, decide_eq_true_eq] at h
  exact ⟨h.1.1, h.1.2, h.2.1, h.2.2⟩

/-- A window word's address is aligned, and its number is as written. -/
theorem window_addr {base i : Nat} (hb : base % 0x1000 = 0) (hl : base ≤ 0x3000) (hi : i < 1024) :
    (BitVec.ofNat 16 (base + 4 * i)).toNat = base + 4 * i ∧
      (BitVec.ofNat 16 (base + 4 * i)).extractLsb' 0 2 = 0#2 := by
  have h : (BitVec.ofNat 16 (base + 4 * i)).toNat = base + 4 * i := by
    simp
    omega
  refine ⟨h, BitVec.eq_of_toNat_eq ?_⟩
  simp only [BitVec.extractLsb'_toNat, h]
  simp
  omega

theorem target_tinAddr {p : Params} (hp : p.wellFormed = true) {i : Nat} (hi : i < p.textDepth) :
    target p (tinAddr i) = .tin i := by
  have hd := depths_of_wellFormed hp
  have h1 : (0x1000 + 4 * i) / 0x1000 = 1 := by omega
  have h2 : (0x1000 + 4 * i) % 0x1000 / 4 = i := by omega
  have ha := (window_addr (base := 0x1000) rfl (by omega) (i := i) (by omega)).1
  simp only [target, tinAddr, ha, h1, h2, if_pos hi]

theorem target_keyAddr {p : Params} (hp : p.wellFormed = true) {j : Nat} (hj : j < p.keyDepth) :
    target p (keyAddr j) = .key j := by
  have hd := depths_of_wellFormed hp
  have h1 : (0x2000 + 4 * j) / 0x1000 = 2 := by omega
  have h2 : (0x2000 + 4 * j) % 0x1000 / 4 = j := by omega
  have ha := (window_addr (base := 0x2000) rfl (by omega) (i := j) (by omega)).1
  simp only [target, keyAddr, ha, h1, h2, if_pos hj]

theorem target_toutAddr {p : Params} (hp : p.wellFormed = true) {i : Nat} (hi : i < p.textDepth) :
    target p (toutAddr i) = .tout i := by
  have hd := depths_of_wellFormed hp
  have h1 : (0x3000 + 4 * i) / 0x1000 = 3 := by omega
  have h2 : (0x3000 + 4 * i) % 0x1000 / 4 = i := by omega
  have ha := (window_addr (base := 0x3000) rfl (by omega) (i := i) (by omega)).1
  simp only [target, toutAddr, ha, h1, h2, if_pos hi]

/-- A window address is aligned. -/
theorem tinAddr_aligned {i : Nat} (hi : i < 1024) : (tinAddr i).extractLsb' 0 2 = 0#2 :=
  (window_addr (base := 0x1000) rfl (by omega) hi).2

theorem keyAddr_aligned {j : Nat} (hj : j < 1024) : (keyAddr j).extractLsb' 0 2 = 0#2 :=
  (window_addr (base := 0x2000) rfl (by omega) hj).2

theorem toutAddr_aligned {i : Nat} (hi : i < 1024) : (toutAddr i).extractLsb' 0 2 = 0#2 :=
  (window_addr (base := 0x3000) rfl (by omega) hi).2

@[simp] theorem regAddr_aligned (r : HostReg) : r.addr.extractLsb' 0 2 = 0#2 := by
  cases r <;> rfl

/-- A size-4 aligned read is MemRead. -/
theorem serve_read {a : Addr} (ha : a.extractLsb' 0 2 = 0#2) (s : State) :
    serve (readRequest a) s = answer s (memRead a s) := by
  simp [serve, readRequest, hostAccess, ha]

/-- A size-4 aligned write is MemWrite. -/
theorem serve_write {a : Addr} (ha : a.extractLsb' 0 2 = 0#2) (w : Word) (s : State) :
    serve (writeRequest a w) s = answer s (memWrite a w s) := by
  simp [serve, writeRequest, hostAccess, ha]

/-- What a register write can do while BUSY = 0: the location decides the next state, and an entry's
index is below its buffer's depth (20_memory.md R59). -/
inductive WriteEffect (w : Word) (s : State) : State → Prop where
  | status : WriteEffect w s (writeStatus w s)
  | ctrl (h : s.busy = false) : WriteEffect w s (writeCtrl w s)
  | cmd (h : s.busy = false) : WriteEffect w s (accept w s)
  | shiftKey (h : s.busy = false) : WriteEffect w s { s with shiftKey := w }
  | textLen (h : s.busy = false) :
      WriteEffect w s { s with textLen := min w.toNat s.params.textDepth }
  | keyLen (h : s.busy = false) :
      WriteEffect w s { s with keyLen := min w.toNat s.params.keyDepth }
  | tin (h : s.busy = false) (i : Nat) (hi : i < s.params.textDepth) :
      WriteEffect w s (writeTin i (w.extractLsb' 0 8) s)
  | key (h : s.busy = false) (j : Nat) (hj : j < s.params.keyDepth) :
      WriteEffect w s (writeKey j (w.extractLsb' 0 8) s)

/-- A buffer location of the map is below its buffer's depth (20_memory.md R56). -/
theorem target_index {p : Params} {a : Addr} :
    (∀ i, target p a = .tin i → i < p.textDepth) ∧ (∀ j, target p a = .key j → j < p.keyDepth) ∧
      ∀ i, target p a = .tout i → i < p.textDepth := by
  have hr (n : Nat) : (∀ i, regTarget n ≠ .tin i) ∧ (∀ i, regTarget n ≠ .key i) ∧
      ∀ i, regTarget n ≠ .tout i := by
    unfold regTarget
    split <;> simp
  unfold target
  dsimp only
  split
  · simp [hr]
  all_goals (try split_ifs) <;> simp_all

/-- An OKAY write has one of the effects of MemWrite (20_memory.md R59). -/
theorem memWrite_okay {a : Addr} {w d : Word} {s t : State} (h : memWrite a w s = .okay d t) :
    d = 0#32 ∧ WriteEffect w s t := by
  unfold memWrite at h
  split at h <;> try exact absurd h (by simp)
  all_goals simp only [unlessBusy, wrote, symbolWrite] at h
  all_goals ((try split_ifs at h); injection h with h1 h2; subst h1; subst h2; refine ⟨rfl, ?_⟩)
  · exact .status
  · exact .ctrl (by simp_all)
  · exact .cmd (by simp_all)
  · exact .shiftKey (by simp_all)
  · exact .textLen (by simp_all)
  · exact .keyLen (by simp_all)
  · exact .tin (by simp_all) _ (target_index.1 _ (by assumption))
  · exact .key (by simp_all) _ (target_index.2.1 _ (by assumption))

/-- An OKAY read changes nothing but, at most, the race counter (20_memory.md R58). -/
theorem memRead_okay {a : Addr} {d : Word} {s t : State} (h : memRead a s = .okay d t) :
    t = s ∨ t = { s with raceCount := s.raceCount + 1 } := by
  unfold memRead at h
  split at h <;> try simp_all
  unfold readToutPort at h
  split_ifs at h <;> simp_all

/-- Everything a served access can do (20_memory.md R57–R60). -/
theorem serve_cases (r : Request) (s : State) :
    (∃ c, hostAccess r s = .error c ∧
      serve r s = { s with response := some { resp := .error, rdata := 0#32 } }) ∨
    (r.kind = .read ∧ ∃ d n,
      serve r s = { s with raceCount := n, response := some { resp := .okay, rdata := d } }) ∨
    (r.kind = .write ∧ ∃ t, WriteEffect r.wdata s t ∧
      serve r s = { t with response := some { resp := .okay, rdata := 0#32 } }) := by
  cases h : hostAccess r s with
  | error c => exact .inl ⟨c, rfl, by simp [serve, h, answer]⟩
  | okay d t =>
    right
    have hs : serve r s = { t with response := some { resp := .okay, rdata := d } } := by
      simp [serve, h, answer]
    unfold hostAccess at h
    split_ifs at h with h1 h2
    cases hk : r.kind with
    | read =>
      left
      rw [hk] at h
      rcases memRead_okay h with rfl | rfl
      · exact ⟨rfl, d, _, hs⟩
      · exact ⟨rfl, d, _, hs⟩
    | write =>
      right
      rw [hk] at h
      obtain ⟨rfl, he⟩ := memWrite_okay h
      exact ⟨rfl, t, he, hs⟩

end Sys2Proof.Machine
end

