-- ==== Sys2Proof/Laws/Step.lean ====
section
/-! SUPPORT. Everything one step can do, said once (20_memory.md R53). -/

namespace Sys2Proof.Machine

theorem engineMoves_iff (s : State) : engineMoves s = true ↔ EngineReady s := by
  simp only [engineMoves, EngineReady, Bool.and_eq_true, decide_eq_true_eq, Bool.not_eq_true',
    and_assoc]
  cases s.pending with
  | nil => simp [engineFirst]
  | cons p rest => simp [engineFirst]

theorem step_engine {s : State} (h : EngineReady s) : step s = engineStep s := by
  simp [step, (engineMoves_iff s).2 h]

theorem step_world {s : State} (h : ¬ EngineReady s) : step s = worldStep s := by
  have : engineMoves s = false := by rwa [Bool.eq_false_iff, Ne, engineMoves_iff]
  simp [step, this]

/-- A pending move is the next step exactly when the engine's completion is not. -/
theorem worldReady_iff {s : State} {p : Pending} {rest : List Pending} (h : s.pending = p :: rest) :
    WorldReady s p rest ↔ ¬ EngineReady s := by
  simp only [WorldReady, EngineReady, h, true_and]
  cases s.phase <;> cases s.rst <;> cases hp : p.afterCompletion <;> simp [hp]

/-- A step that answers a next state is the engine's completion, an idle step, a sampled rst level or a
served access. -/
theorem step_cases {s t : State} (h : step s = .next t) :
    (EngineReady s ∧ engineStep s = .next t) ∨
    (¬ EngineReady s ∧ s.pending = [] ∧ t = s) ∨
    (∃ p rest, WorldReady s p rest ∧
      ((p.event = .rst true ∧ t = resetEdge { s with pending := rest }) ∨
       (p.event = .rst false ∧ t = releaseReset { s with pending := rest }) ∨
       (∃ r, p.event = .access r ∧ s.rst = false ∧ t = serve r { s with pending := rest }))) := by
  by_cases he : EngineReady s
  · exact .inl ⟨he, by rwa [step_engine he] at h⟩
  · right
    rw [step_world he, worldStep] at h
    cases hp : s.pending with
    | nil =>
      simp only [hp] at h
      exact .inl ⟨he, rfl, by simpa using h.symm⟩
    | cons p rest =>
      simp only [hp] at h
      refine .inr ⟨p, rest, (worldReady_iff hp).2 he, ?_⟩
      cases hv : p.event with
      | rst level =>
        cases level
        · simp only [hv, hostStep] at h
          exact .inr (.inl ⟨rfl, by simpa using h.symm⟩)
        · simp only [hv, hostStep] at h
          exact .inl ⟨rfl, by simpa using h.symm⟩
      | access r =>
        simp only [hv, hostStep] at h
        split_ifs at h with hr
        exact .inr (.inr ⟨r, rfl, by simpa using hr, by simpa using h.symm⟩)

end Sys2Proof.Machine
end

