-- ==== Sys2Proof/Tests/Slice0.lean ====
section
/-! SUPPORT. The model's own tests: the well-formedness checks refuse ill-formed terms, command words
written out from 30_encoding.md R80 and R84 decode as they should, one or two vectors of
95_test_vectors.md per command and for the host port; then, for every statement with hypotheses, a
concrete state and operands that meet them. -/

namespace Sys2Proof.Tests

open Sys2Proof Sys2Proof.Machine

/-! ## Helpers -/

/-- An outcome is a next state with a property. -/
def nextIs (p : State → Bool) : Host.Outcome State Fault Refusal → Bool
  | .next t => p t
  | .fault _ => false
  | .refused _ => false

/-- A running command over a text, a key, a shift key and a wrap mode. -/
def running (w : Word) (text key : Memory 8) (k : Int) (sym : Bool) : State :=
  { accept w State.reset with
    tin := text
    textLen := text.length
    key := key
    keyLen := key.length
    shiftKey := BitVec.ofInt 32 k
    wrapSym := sym }

/-- The same block, idle. -/
def idle (text key : Memory 8) (k : Int) (sym : Bool) : State :=
  { running 0#32 text key k sym with busy := false, phase := .idle }

/-- The response of one access. -/
def responds (r : Request) (s : State) : Option Response := (serve r s).response

/-- OKAY with this read data. -/
def okay (w : Word) : Option Response := some { resp := .okay, rdata := w }

/-- ERROR. -/
def error : Option Response := some { resp := .error, rdata := 0#32 }

/-! ## Well-formedness refuses -/

theorem test_wf_default : Params.default.wellFormed = true := by decide
theorem test_wf_text_depth_zero : Params.wellFormed ⟨0, 256⟩ = false := by decide
theorem test_wf_text_depth_1025 : Params.wellFormed ⟨1025, 256⟩ = false := by decide
theorem test_wf_key_depth_zero : Params.wellFormed ⟨256, 0⟩ = false := by decide
theorem test_wf_key_depth_1025 : Params.wellFormed ⟨256, 1025⟩ = false := by decide

/-! ## Command words, bit by bit (30_encoding.md R80, R84) -/

theorem test_decode_validate :
    decode 0b0000_0000_0000_0000_0000_0000_0000_0001#32 = .instr .validate := by decide
theorem test_decode_knorm :
    decode 0b0000_0000_0000_0000_0000_0000_0000_0010#32 = .instr .knorm := by decide
theorem test_decode_shenc :
    decode 0b0000_0000_0000_0000_0000_0000_0000_0011#32 = .instr .shenc := by decide
theorem test_decode_shdec :
    decode 0b0000_0000_0000_0000_0000_0000_0000_0100#32 = .instr .shdec := by decide
theorem test_decode_rkenc :
    decode 0b0000_0000_0000_0000_0000_0000_0000_0101#32 = .instr .rkenc := by decide
theorem test_decode_rkdec :
    decode 0b0000_0000_0000_0000_0000_0000_0000_0110#32 = .instr .rkdec := by decide
/-- 95_test_vectors.md X1 to X5. -/
theorem test_decode_reserved :
    decode 0x00000000#32 = .reserved .opReserved ∧ decode 0x00000007#32 = .reserved .opReserved ∧
    decode 0x0000000F#32 = .reserved .opReserved ∧ decode 0x00000013#32 = .reserved .mbzNonzero ∧
    decode 0x80000001#32 = .reserved .mbzNonzero := by decide
theorem test_table_word : decodeTableWord 32 4 = some .shdec ∧ decodeTableWord 32 0x14 = none := by
  decide

/-! ## The commands (95_test_vectors.md) -/

/-- V7: position 2 is not checked. -/
theorem test_validate_v7 :
    nextIs (fun t => t.valid && t.done) (step { running 1#32 [(0, 72), (1, 73), (2, 10)] [] 0 false
      with textLen := 2 }) = true := by decide
/-- V5: code 96 is invalid. -/
theorem test_validate_v5 :
    nextIs (fun t => !t.valid) (step (running 1#32 [(0, 96)] [] 0 false)) = true := by decide
/-- K9: 2^31 − 1 gives 63. -/
theorem test_knorm_k9 :
    nextIs (fun t => t.shiftKey == 63#32) (step (running 2#32 [] [] 2147483647 false)) = true := by
  decide
/-- K8: a negative key is unchanged. -/
theorem test_knorm_k8 :
    nextIs (fun t => t.shiftKey == 0xFFFFFFBF#32) (step (running 2#32 [] [] (-65) false)) = true := by
  decide
/-- E2, FAITHFUL: 31 with OOR. -/
theorem test_shenc_e2_faithful :
    nextIs (fun t => readTout t 0 == 0x11F#9 && t.oor && t.outLen == 1)
      (step (running 3#32 [(0, 32)] [] (-1) false)) = true := by decide
/-- E2, SYMMETRIC: 95. -/
theorem test_shenc_e2_symmetric :
    nextIs (fun t => readTout t 0 == 0x05F#9 && !t.oor)
      (step (running 3#32 [(0, 32)] [] (-1) true)) = true := by decide
/-- D6, FAITHFUL: 2^31 + 255, not wrapped. -/
theorem test_shdec_d6_faithful :
    nextIs (fun t => readTout t 0 == 0x1FF#9 && t.oor)
      (step (running 4#32 [(0, 255)] [] (-2147483648) false)) = true := by decide
/-- D9: 31 wraps up to 95. -/
theorem test_shdec_d9 :
    nextIs (fun t => readTout t 0 == 0x05F#9 && !t.oor)
      (step (running 4#32 [(0, 31)] [] 0 false)) = true := by decide
/-- RE5: "CAT" under "KEY". -/
theorem test_rkenc_re5 :
    nextIs (fun t => readTout t 0 == 0x04E#9 && readTout t 1 == 0x046#9 && readTout t 2 == 0x02D#9 &&
        statusWord t == 0x06#32)
      (step (running 5#32 [(0, 67), (1, 65), (2, 84)] [(0, 75), (1, 69), (2, 89)] 0 false)) = true := by
  decide
/-- RE10: the gate comes before the empty key. -/
theorem test_rkenc_re10 :
    nextIs (fun t => statusWord t == 0x02#32 && t.outLen == 0)
      (step (running 5#32 [(0, 65), (1, 10)] [] 0 false)) = true := by decide
/-- RD5: "IGMNP" under "AB" gives "HELLO". -/
theorem test_rkdec_rd5 :
    nextIs (fun t => readTout t 0 == 0x048#9 && readTout t 1 == 0x045#9 && readTout t 4 == 0x04F#9 &&
        t.outLen == 5)
      (step (running 6#32 [(0, 73), (1, 71), (2, 77), (3, 78), (4, 80)] [(0, 65), (1, 66)] 0 false)) =
      true := by decide
/-- RD7: an empty key is KEY_EMPTY even for the empty text. -/
theorem test_rkdec_rd7 :
    nextIs (fun t => statusWord t == 0x22#32) (step (running 6#32 [] [] 0 false)) = true := by decide
/-- X4: a reserved word. -/
theorem test_reserved_x4 :
    nextIs (fun t => statusWord t == 0x12#32) (step (running 0x13#32 [] [] 0 false)) = true := by decide
/-- W8 and W9 of the wrap table. -/
theorem test_wrap_w8_w9 :
    wrapDown 2147483720 = 72 ∧ pack (wrapUp 2147483720) = 0x148#9 ∧
    pack (wrapDown (-2147483616)) = 0x120#9 ∧ wrap (-63) = 65 := by decide

/-! ## The host port (95_test_vectors.md, A and L rows) -/

theorem test_port_a1_a2 :
    responds (readRequest 0x0000#16) State.reset = okay 0x53434531#32 ∧
    responds (readRequest 0x0004#16) State.reset = okay 0x01000100#32 := by decide
theorem test_port_a7_a8 :
    responds ⟨.read, 0x0002#16, .four, 0#32⟩ State.reset = error ∧
    responds ⟨.read, 0x0010#16, .one, 0#32⟩ State.reset = error := by decide
theorem test_port_a11_a12 :
    responds (readRequest 0x1400#16) State.reset = error ∧
    responds (readRequest 0x4000#16) State.reset = error := by decide
theorem test_port_a13 :
    responds (writeRequest 0x1000#16 0x141#32) State.reset = error ∧
    (serve (writeRequest 0x1000#16 0x141#32) State.reset).tin = [] := by decide
theorem test_port_a14 : (serve (writeRequest 0x2000#16 0xFF#32) State.reset).key = [(0, 255)] := by
  decide
theorem test_port_a15_a16 :
    (serve (writeRequest 0x0018#16 300#32) State.reset).textLen = 256 ∧
    (serve (writeRequest 0x0018#16 0xFFFFFFFF#32) State.reset).textLen = 256 := by decide
theorem test_port_a18 :
    responds (readRequest 0x0008#16) (serve (writeRequest 0x0008#16 0xFFFFFFFF#32) State.reset) =
      okay 3#32 := by decide
theorem test_port_a19 :
    responds (writeRequest 0x000C#16 3#32) (running 1#32 [] [] 0 false) = error := by decide
theorem test_lifecycle_l1 :
    statusWord (serve (writeRequest 0x000C#16 3#32)
      { State.reset with err := 1#4, oor := true, done := true }) = 0x01#32 := by decide
theorem test_irq_l3 :
    (serve (writeRequest 0x0008#16 2#32) { State.reset with done := true }).irq = true := by decide
/-- Z1: reset abandons a running command. -/
theorem test_reset_z1 :
    nextIs (fun t => !t.busy && !t.done && t.phase == .idle)
      (step { running 3#32 [(0, 65)] [] 0 false with pending := [⟨false, .rst true⟩] }) = true := by
  decide
/-- 30_encoding.md R88: LDTEXT, then SETKEY, as accesses. -/
theorem test_program_ldtext :
    (runStraight (ldTextStmts [72, 73] ++ setKeyStmts (-1)) HostThread.start State.reset).2.tin =
      [(0, 72), (1, 73)] ∧
    (runStraight (ldTextStmts [72, 73] ++ setKeyStmts (-1)) HostThread.start State.reset).2.shiftKey =
      0xFFFFFFFF#32 := by decide

/-- 70_reset_and_hazards.md R175: an access while rst = 1 is stuck, a label is not one. -/
theorem test_program_in_reset :
    runProgram ackStmts [false] HostThread.start { State.reset with rst := true } =
      .fault .accessDuringReset ∧
    ∃ r, runProgram [.label "L"] [false] HostThread.start { State.reset with rst := true } =
      .next r := ⟨rfl, _, rfl⟩

/-! ## Witnesses: the hypotheses of the statements can be met -/

/-- A two-symbol text "HE" under "AB". -/
def textHE : Memory 8 := [(0, 72), (1, 69)]

/-- The key "AB". -/
def keyAB : Memory 8 := [(0, 65), (1, 66)]

theorem text_alphabet (w : Word) (key : Memory 8) (k : Int) (sym : Bool) :
    TextInAlphabet (running w textHE key k sym) := by
  show ∀ i < 2, 32 ≤ ((Memory.lookup textHE i).getD (Config.drawTin 0 i)).toNat.cast ∧ _
  intro i hi
  interval_cases i
  · exact ⟨show (32 : Int) ≤ 72 by decide, show (72 : Int) ≤ 95 by decide⟩
  · exact ⟨show (32 : Int) ≤ 69 by decide, show (69 : Int) ≤ 95 by decide⟩

theorem text_outside (w : Word) (key : Memory 8) (k : Int) (sym : Bool) :
    ¬ TextInAlphabet (running w [(0, 65), (1, 10)] key k sym) := by
  intro h
  exact absurd (h 1 (show 1 < 2 by decide)).1 (show ¬ (32 : Int) ≤ 10 by decide)

theorem ready (w : Word) (text key : Memory 8) (k : Int) (sym : Bool) :
    EngineReady (running w text key k sym) := ⟨rfl, rfl, .inl rfl⟩

/-- A running SHENC with a STATUS read still to come. -/
def polled (after : Bool) : State :=
  { running 3#32 textHE keyAB 3 false with
    pending := [⟨after, .access (readRequest 0x0010#16)⟩] }

theorem polled_inv (after : Bool) : BlockInv (polled after) where
  params := by show Params.default.wellFormed = true; decide
  busyIffRun := by simp [polled, running, accept]
  runningClear _ := ⟨rfl, rfl, rfl⟩
  errLegal := .inl rfl
  textLen := by show 2 ≤ 256; decide
  keyLen := by show 2 ≤ 256; decide
  outLen := by show 0 ≤ 256; decide
  pos := by show 0 ≤ 256; decide
  kptr := by show 0 < 256; decide
  tin := by show Memory.wf 256 textHE; decide
  key := by show Memory.wf 256 keyAB; decide
  tout := nil_wf 256
  held h := absurd h (by simp [polled, running, accept, State.reset])

theorem idle_inv (k : Int) (sym : Bool) : BlockInv (idle textHE keyAB k sym) where
  params := by show Params.default.wellFormed = true; decide
  busyIffRun := by simp [idle]
  runningClear h := by simp [idle] at h
  errLegal := .inl rfl
  textLen := by show 2 ≤ 256; decide
  keyLen := by show 2 ≤ 256; decide
  outLen := by show 0 ≤ 256; decide
  pos := by show 0 ≤ 256; decide
  kptr := by show 0 < 256; decide
  tin := by show Memory.wf 256 textHE; decide
  key := by show Memory.wf 256 keyAB; decide
  tout := nil_wf 256
  held h := absurd h (by simp [idle, running, accept, State.reset])

/-- The reset state with rst still 1. -/
def heldReset (moves : List Pending) : State := { State.reset with rst := true, pending := moves }

theorem heldReset_inv (moves : List Pending) : BlockInv (heldReset moves) where
  params := by show Params.default.wellFormed = true; decide
  busyIffRun := by simp [heldReset, State.reset]
  runningClear _ := ⟨rfl, rfl, rfl⟩
  errLegal := .inl rfl
  textLen := by show 0 ≤ 256; decide
  keyLen := by show 0 ≤ 256; decide
  outLen := by show 0 ≤ 256; decide
  pos := by show 0 ≤ 256; decide
  kptr := by show 0 < 256; decide
  tin := nil_wf 256
  key := nil_wf 256
  tout := nil_wf 256
  held _ := by constructor <;> rfl

theorem witness_StepRunsDecodedCommand :
    (EngineReady (running 3#32 textHE [] 3 false) ∧
      decode (running 3#32 textHE [] 3 false).opl = .instr .shenc) ∧
    (EngineReady (polled true) ∧ decode (polled true).opl = .instr .shenc) :=
  ⟨⟨ready _ _ _ _ _, by decide⟩, ⟨rfl, rfl, .inr ⟨_, _, rfl, rfl⟩⟩, by decide⟩

theorem witness_StepPerformsPendingMove :
    WorldReady (polled false) ⟨false, .access (readRequest 0x0010#16)⟩ [] ∧
    WorldReady (heldReset [⟨true, .rst false⟩]) ⟨true, .rst false⟩ [] ∧
    WorldReady { State.reset with pending := [⟨true, .access (readRequest 0x0010#16)⟩] }
      ⟨true, .access (readRequest 0x0010#16)⟩ [] ∧ (polled false).rst = false :=
  ⟨⟨rfl, .inr (.inr rfl)⟩, ⟨rfl, .inl rfl⟩, ⟨rfl, .inl rfl⟩, rfl⟩

theorem witness_CmdWriteAcceptsEveryWord : State.reset.busy = false := rfl

theorem witness_EveryRunningCommandCompletes : EngineReady (running 0x13#32 [] [] 0 false) :=
  ready _ _ _ _ _

/-- Each clause at a boundary word: 0x10, 0x0, 0x7 and 0xF. -/
theorem witness_ReservedWordCompletesIllegalOp :
    EngineReady (running 0x10#32 [] [] 0 false) ∧
    (running 0x10#32 [] [] 0 false).opl.toNat / 16 ≠ 0 ∧
    (running 0x00#32 [] [] 0 false).opl.toNat % 16 = 0 ∧
    7 ≤ (running 0x07#32 [] [] 0 false).opl.toNat % 16 ∧
    7 ≤ (running 0x0F#32 [] [] 0 false).opl.toNat % 16 :=
  ⟨ready _ _ _ _ _, by decide, by decide, by decide, by decide⟩

theorem witness_AcceptedCommandEventuallyCompletes :
    BlockInv (polled false) ∧ (polled false).phase = .run ∧ (polled false).rst = false ∧
      ∀ p ∈ (polled false).pending, ∃ r, p.event = .access r :=
  ⟨polled_inv _, rfl, rfl, by simp [polled]⟩

theorem witness_OperandsFrozenWhileBusy : (polled false).busy = true := rfl

/-- Keys on both sides of KNORM's bound: 64, 63 and −1. -/
theorem witness_KnormReducesFromAbove :
    63 < (running 2#32 [] [] 64 false).shiftKey.toInt ∧
    (running 2#32 [] [] 63 false).shiftKey.toInt ≤ 63 ∧
    (running 2#32 [] [] (-1) false).shiftKey.toInt < 0 := by decide

theorem witness_KnormIsIdempotent : (running 2#32 [] [] (-1) false).shiftKey.toInt < 0 := by decide

/-- FAITHFUL with 95 + 1, FAITHFUL with 32 − 1, and SYMMETRIC. -/
theorem witness_ShencOutOfRangeOnlyBelow :
    (95 < textCode (running 3#32 [(0, 95)] [] 1 false) 0 +
      shiftKeyInt (running 3#32 [(0, 95)] [] 1 false)) ∧
    (textCode (running 3#32 [(0, 32)] [] (-1) false) 0 +
      shiftKeyInt (running 3#32 [(0, 32)] [] (-1) false) < 32) ∧
    32 ≤ textCode (running 3#32 [(0, 32)] [] (-1) false) 0 ∧
    nextIs (fun t => (readTout t 0).getLsbD 8) (exec .shenc (running 3#32 [(0, 32)] [] (-1) false)) =
      true ∧
    TextInAlphabet (running 3#32 textHE [] 3 false) ∧
    0 ≤ shiftKeyInt (running 3#32 textHE [] 3 false) ∧
    (running 3#32 textHE [] 3 true).wrapSym = true :=
  ⟨by decide, by decide, by decide, by decide, text_alphabet _ _ _ _, by decide, rfl⟩

/-- FAITHFUL with 95 + 1 by the key −1, and SYMMETRIC. -/
theorem witness_ShdecOutOfRangeOnlyAbove :
    (95 < textCode (running 4#32 [(0, 95)] [] (-1) false) 0 -
      shiftKeyInt (running 4#32 [(0, 95)] [] (-1) false)) ∧
    textCode (running 4#32 [(0, 95)] [] (-1) false) 0 ≤ 95 ∧
    nextIs (fun t => (readTout t 0).getLsbD 8) (exec .shdec (running 4#32 [(0, 95)] [] (-1) false)) =
      true ∧
    (running 4#32 textHE [] 3 true).wrapSym = true :=
  ⟨by decide, by decide, by decide, rfl⟩

theorem witness_NormalizingIsUnobservableOnValidText :
    TextInAlphabet (running 3#32 textHE [] 100 false) ∧
      0 ≤ shiftKeyInt (running 3#32 textHE [] 100 false) :=
  ⟨text_alphabet _ _ _ _, by decide⟩

theorem witness_RkencAddsTheCycledKey :
    TextInAlphabet (running 5#32 textHE keyAB 0 false) ∧
      1 ≤ (running 5#32 textHE keyAB 0 false).keyLen :=
  ⟨text_alphabet _ _ _ _, by decide⟩

theorem witness_RkencGateGivesEmptyResult :
    ¬ TextInAlphabet (running 5#32 [(0, 65), (1, 10)] [] 0 false) := text_outside _ _ _ _

theorem witness_RkencEmptyKeyIsKeyEmpty :
    TextInAlphabet (running 5#32 textHE [] 0 false) ∧
      (running 5#32 textHE [] 0 false).keyLen = 0 :=
  ⟨text_alphabet _ _ _ _, rfl⟩

theorem witness_RkdecSubtractsTheCycledKey : 1 ≤ (running 6#32 textHE keyAB 0 false).keyLen := by
  decide

theorem witness_RkdecEmptyKeyIsKeyEmpty : (running 6#32 textHE [] 0 false).keyLen = 0 := rfl

theorem witness_RkencStaysInTheAlphabet :
    TextInAlphabet (running 5#32 textHE keyAB 0 false) ∧
      1 ≤ (running 5#32 textHE keyAB 0 false).keyLen ∧
      ∃ t, exec .rkenc (running 5#32 textHE keyAB 0 false) = .next t :=
  ⟨text_alphabet _ _ _ _, by decide, _, rfl⟩

theorem witness_KptrCountsModuloKeyLength : kptrAfter 1 5 = 0 ∧ kptrAfter 2 5 = 1 := by decide

/-- One state for each clause: with a key, without one, and with an invalid text, the last also with a
key, where RKDEC still transforms. -/
theorem witness_HiddenCountersAfterCommands :
    TextInAlphabet (running 5#32 textHE keyAB 0 false) ∧
    1 ≤ (running 5#32 textHE keyAB 0 false).keyLen ∧
    (running 6#32 textHE [] 0 false).keyLen = 0 ∧
    ¬ TextInAlphabet (running 5#32 [(0, 65), (1, 10)] [] 0 false) ∧
    ¬ TextInAlphabet (running 6#32 [(0, 65), (1, 10)] keyAB 0 false) ∧
    1 ≤ (running 6#32 [(0, 65), (1, 10)] keyAB 0 false).keyLen ∧
    ∀ i s, ∃ t, exec i s = .next t :=
  ⟨text_alphabet _ _ _ _, by decide, rfl, text_outside _ _ _ _, text_outside _ _ _ _, by decide,
    fun i _ => by cases i <;> exact ⟨_, rfl⟩⟩

/-- Buffers that differ only at entries 2 and 3. -/
theorem witness_CommandsIgnoreEntriesBeyondTheLengths :
    (∀ j < 2, readTin { running 5#32 textHE keyAB 0 false with tin := [(0, 72), (1, 69), (2, 10)] } j =
      readTin (running 5#32 textHE keyAB 0 false) j) ∧
    (∀ j < 2, readKey { running 5#32 textHE keyAB 0 false with key := [(0, 65), (1, 66), (3, 1)] } j =
      readKey (running 5#32 textHE keyAB 0 false) j) ∧
    ∃ t, exec .rkenc (running 5#32 textHE keyAB 0 false) = .next t :=
  ⟨fun j hj => by interval_cases j <;> rfl, fun j hj => by interval_cases j <;> rfl, _, rfl⟩

theorem witness_WrapSymConcernsOnlyTheShiftCipher :
    ∀ i, ∃ t, exec i (running 5#32 textHE keyAB 0 false) = .next t :=
  fun i => by cases i <;> exact ⟨_, rfl⟩

/-- Each side of each bound: 95, 96, 32 and 31. -/
theorem witness_OneSidedWrapsMeetTheirLoops :
    wrapDown 95 = 95 ∧ wrapDown 96 = 32 ∧ wrapUp 32 = 32 ∧ wrapUp 31 = 95 := by decide

theorem witness_PackHoldsSymbolAndOorBit :
    (pack 32).getLsbD 8 = false ∧ (pack 95).getLsbD 8 = false := by decide

/-- The alphabet's ends. -/
theorem witness_ShiftRoundTripOverIntegers :
    mau (mau 32 (-33) false .down) (-33) true .up = 32 ∧
    mau (mau 95 1 false .both) 1 true .both = 95 := by decide

/-- FAITHFUL with k = −1, where every c_i + k ≥ 0; FAITHFUL with k = −70, where 69 − 70 < 0; and
SYMMETRIC with k = −70. -/
theorem witness_ShiftRoundTripThroughTheBuffers :
    (∀ k sym, BlockInv (idle textHE keyAB k sym) ∧ (idle textHE keyAB k sym).phase = .idle ∧
      TextInAlphabet (idle textHE keyAB k sym)) ∧
    0 ≤ textCode (idle textHE keyAB (-1) false) 0 + shiftKeyInt (idle textHE keyAB (-1) false) ∧
    0 ≤ textCode (idle textHE keyAB (-1) false) 1 + shiftKeyInt (idle textHE keyAB (-1) false) ∧
    textCode (idle textHE keyAB (-70) false) 1 + shiftKeyInt (idle textHE keyAB (-70) false) < 0 ∧
    (idle textHE keyAB (-70) true).wrapSym = true :=
  ⟨fun k sym => ⟨idle_inv _ _, rfl, text_alphabet 0#32 keyAB k sym⟩, by decide, by decide, by decide,
    rfl⟩

theorem witness_RepeatingKeyRoundTripThroughTheBuffers :
    BlockInv (idle textHE keyAB 0 false) ∧ (idle textHE keyAB 0 false).phase = .idle ∧
      TextInAlphabet (idle textHE keyAB 0 false) ∧ 1 ≤ (idle textHE keyAB 0 false).keyLen :=
  ⟨idle_inv _ _, rfl, text_alphabet 0#32 keyAB 0 false, by decide⟩

theorem witness_IllegalSizeOrAlignmentIsRefused :
    (⟨.write, 0x1000#16, .two, 0#32⟩ : Request).size ≠ .four ∧
    (⟨.read, 0x0002#16, .four, 0#32⟩ : Request).addr.toNat % 4 ≠ 0 := by decide

/-- The first and last unmapped words of each range, with the default depths. -/
theorem witness_UnmappedAddressesAreRefused :
    State.reset.params.wellFormed = true ∧
    (∀ a, a = 0x0024#16 ∨ a = 0x0FFC#16 → 0x24 ≤ a.toNat ∧ a.toNat < 0x1000) ∧
    (∀ a, a = 0x1400#16 ∨ a = 0x1FFC#16 → 0x1000 + 4 * 256 ≤ a.toNat ∧ a.toNat < 0x2000) ∧
    (∀ a, a = 0x2400#16 ∨ a = 0x2FFC#16 → 0x2000 + 4 * 256 ≤ a.toNat ∧ a.toNat < 0x3000) ∧
    (∀ a, a = 0x3400#16 ∨ a = 0xFFFC#16 → 0x3000 + 4 * 256 ≤ a.toNat) := by
  refine ⟨by decide, ?_, ?_, ?_, ?_⟩ <;> rintro a (rfl | rfl) <;> decide

theorem witness_ErrorResponseHasNoEffect :
    (serve (writeRequest 0x0000#16 5#32) State.reset).response =
      some { resp := .error, rdata := 0#32 } := by decide

/-- The last entry of each buffer, BUSY = 0 and BUSY = 1. -/
theorem witness_ReadsReturnTheLocations :
    State.reset.params.wellFormed = true ∧ 255 < State.reset.params.textDepth ∧
    255 < State.reset.params.keyDepth ∧ State.reset.busy = false ∧ (polled false).busy = true := by
  decide

theorem witness_GatedRkencReadsAreExact :
    (running 5#32 [(0, 65), (1, 10)] [] 0 false).params.wellFormed = true ∧
    (running 5#32 [(0, 65), (1, 10)] [] 0 false).opl = 0x00000005#32 ∧
    ¬ TextInAlphabet (running 5#32 [(0, 65), (1, 10)] [] 0 false) ∧
    255 < (running 5#32 [(0, 65), (1, 10)] [] 0 false).params.textDepth :=
  ⟨by decide, rfl, text_outside _ _ _ _, by decide⟩

theorem witness_BusyWritesAreRefused :
    (polled false).params.wellFormed = true ∧ (polled false).busy = true ∧
      255 < (polled false).params.textDepth ∧ 255 < (polled false).params.keyDepth := by decide

theorem witness_ReadOnlyWritesAreRefused :
    State.reset.params.wellFormed = true ∧ 255 < State.reset.params.textDepth := by decide

theorem witness_CtrlWriteSetsItsTwoBits :
    State.reset.busy = false ∧ (polled false).busy = true := ⟨rfl, rfl⟩

theorem witness_OperandWritesStoreAndClamp : State.reset.busy = false := rfl

/-- The last entries, and data words 255 and 256. -/
theorem witness_SymbolWritesStoreOneCode :
    State.reset.params.wellFormed = true ∧ State.reset.busy = false ∧
    255 < State.reset.params.textDepth ∧ 255 < State.reset.params.keyDepth ∧
    (255#32).toNat < 256 ∧ 256 ≤ (256#32).toNat := by decide

theorem witness_IrqFollowsDoneAndEnable :
    ({ State.reset with done := true } : State).busy = false ∧
    ({ State.reset with done := true } : State).done = true ∧ (2#32).getLsbD 1 = true := by decide

/-- SHENC changes OUT_LEN, and so does reset. -/
theorem witness_OnlyStringCommandsWriteOutLen :
    nextIs (fun t => t.outLen != 0) (step (running 3#32 textHE [] 3 false)) = true ∧
    nextIs (fun t => t.outLen != 2)
      (step { State.reset with outLen := 2, pending := [⟨false, .rst true⟩] }) = true := by decide

/-- VALIDATE changes VALID, and so does reset. -/
theorem witness_OnlyValidationWritesValid :
    nextIs (fun t => t.valid != false) (step (running 1#32 textHE [] 3 false)) = true ∧
    nextIs (fun t => t.valid != true)
      (step { State.reset with valid := true, pending := [⟨false, .rst true⟩] }) = true := by decide

/-- A CMD write sets BUSY; a completion and a reset clear it. -/
theorem witness_OnlyAcceptanceSetsBusy :
    nextIs (fun t => t.busy)
      (step { State.reset with
        pending := [⟨false, .access (writeRequest 0x000C#16 1#32)⟩] }) = true ∧
    nextIs (fun t => !t.busy) (step (running 1#32 textHE [] 3 false)) = true ∧
    nextIs (fun t => !t.busy) (step { running 1#32 textHE [] 3 false with
      pending := [⟨false, .rst true⟩] }) = true := by decide

theorem witness_FirstCommandAfterReset : AtReset (heldReset []) := by constructor <;> rfl

/-- An edge with rst = 1 on a running block, and one with rst = 0 on a block in reset. -/
theorem witness_ResetEdgeResetsTheBlock :
    (WorldReady { running 1#32 textHE [] 3 false with pending := [⟨false, .rst true⟩] }
      ⟨false, .rst true⟩ [] ∧ (running 1#32 textHE [] 3 false).rst = false) ∧
    WorldReady (heldReset [⟨false, .rst false⟩]) ⟨false, .rst false⟩ [] ∧
      (heldReset [⟨false, .rst false⟩]).rst = true :=
  ⟨⟨⟨rfl, .inr (.inr rfl)⟩, rfl⟩, ⟨rfl, .inl rfl⟩, rfl⟩

theorem witness_StateHoldsWhileInReset :
    BlockInv (heldReset [⟨false, .rst true⟩]) ∧ (heldReset [⟨false, .rst true⟩]).rst = true ∧
      ∃ t, step (heldReset [⟨false, .rst true⟩]) = .next t :=
  ⟨heldReset_inv _, rfl, _, rfl⟩

/-- A stuck state and one that is not. -/
theorem witness_StepStopsOnlyOnAccessInReset :
    StuckInReset (heldReset [⟨false, .access (readRequest 0x0000#16)⟩]) ∧
    ¬ StuckInReset State.reset :=
  ⟨⟨rfl, _, _, _, rfl, rfl⟩, fun h => absurd h.1 (by decide)⟩

theorem witness_IdleBlockDoesNothing :
    State.reset.phase = .idle ∧ State.reset.pending = [] := ⟨rfl, rfl⟩

theorem witness_EveryStepKeepsInvariant :
    BlockInv (polled false) ∧ ∃ t, step (polled false) = .next t := ⟨polled_inv _, _, rfl⟩

end Sys2Proof.Tests
end

section
/-! SUPPORT. A command's meaning is one body and then the end of complete() (40_datapath.md R107,
R108): what each body is, what every body keeps, and what the engine's step answers. -/

namespace Sys2Proof.Machine

/-- The body EXEC(i) of each command, before the end of complete() (40_datapath.md R107). -/
def commandBody : Instr → State → State
  | .validate, s => { s with valid := allValid s.textLen s }
  | .knorm, s => { s with shiftKey := BitVec.ofInt 32 (normalizeKey (shiftKeyInt s)) }
  | .shenc, s => xform s.textLen (shencResult s) s
  | .shdec, s => xform s.textLen (shdecResult s) s
  | .rkenc, s => rkencBody s
  | .rkdec, s => rkdecBody s

theorem exec_eq (i : Instr) (s : State) : exec i s = .next (complete (commandBody i s)) := by
  cases i <;> rfl

theorem exec_next_iff {i : Instr} {s t : State} :
    exec i s = .next t ↔ t = complete (commandBody i s) := by
  rw [exec_eq, Host.Outcome.next.injEq, eq_comm]

/-- The engine's step is the completion of the decoded command, or of a reserved word. -/
theorem engineStep_cases {s t : State} (h : engineStep s = .next t) :
    (∃ i, decode s.opl = .instr i ∧ t = complete (commandBody i s)) ∨
    (∃ why, decode s.opl = .reserved why ∧ t = completeReserved s) := by
  unfold engineStep at h
  cases hd : decode s.opl with
  | instr i =>
    rw [hd] at h
    exact .inl ⟨i, rfl, exec_next_iff.1 h⟩
  | reserved why =>
    rw [hd] at h
    exact .inr ⟨why, rfl, by simpa using h.symm⟩

theorem engineStep_completed {s t : State} (h : engineStep s = .next t) : Completed t := by
  obtain ⟨i, -, rfl⟩ | ⟨why, -, rfl⟩ := engineStep_cases h
  · exact complete_completed _
  · exact complete_completed _

/-! The bodies of RKENC and RKDEC by the first check that applies (60_exceptions.md R157). -/

theorem rkencBody_invalid {s : State} (hv : allValid s.textLen s = false) :
    rkencBody s = { s with valid := false, outLen := 0 } := by
  simp [rkencBody, hv]

theorem rkencBody_noKey {s : State} (hv : allValid s.textLen s = true) (hk : s.keyLen = 0) :
    rkencBody s = keyEmpty { s with valid := true } := by
  simp [rkencBody, hv, hk]

theorem rkencBody_keyed {s : State} (hv : allValid s.textLen s = true) (hk : s.keyLen ≠ 0) :
    rkencBody s = xformKeyed s.textLen (rkencResult s) { s with valid := true } := by
  simp [rkencBody, hv, hk]

theorem rkdecBody_noKey {s : State} (hk : s.keyLen = 0) : rkdecBody s = keyEmpty s := by
  simp [rkdecBody, hk]

theorem rkdecBody_keyed {s : State} (hk : s.keyLen ≠ 0) :
    rkdecBody s = xformKeyed s.textLen (rkdecResult s) s := by
  simp [rkdecBody, hk]

/-- No body leaves the frame of a command. -/
theorem commandBody_frame (i : Instr) (s : State) : CommandFrame s (commandBody i s) := by
  cases i with
  | validate => exact { CommandFrame.refl s with }
  | knorm => exact { CommandFrame.refl s with }
  | shenc => exact xform_frame _ _ s
  | shdec => exact xform_frame _ _ s
  | rkenc =>
    obtain ⟨-, h⟩ | ⟨-, -, h⟩ | ⟨-, -, h⟩ := rkencBody_cases s <;> rw [commandBody, h]
    · exact { CommandFrame.refl s with }
    · exact { keyEmpty_frame { s with valid := true } with }
    · exact { xformKeyed_frame s.textLen (rkencResult s) { s with valid := true } with }
  | rkdec =>
    obtain ⟨-, h⟩ | ⟨-, h⟩ := rkdecBody_cases s <;> rw [commandBody, h]
    · exact keyEmpty_frame s
    · exact xformKeyed_frame _ _ s

/-- No body writes TIN or KEY. -/
theorem commandBody_buffers (i : Instr) (s : State) :
    (commandBody i s).tin = s.tin ∧ (commandBody i s).key = s.key := by
  cases i with
  | rkenc =>
    obtain ⟨-, h⟩ | ⟨-, -, h⟩ | ⟨-, -, h⟩ := rkencBody_cases s <;>
      rw [commandBody, h] <;> exact ⟨rfl, rfl⟩
  | rkdec =>
    obtain ⟨-, h⟩ | ⟨-, h⟩ := rkdecBody_cases s <;> rw [commandBody, h] <;> exact ⟨rfl, rfl⟩
  | _ => exact ⟨rfl, rfl⟩

/-- The counter of 40_datapath.md R104 counts positions modulo the key length. -/
theorem kptrAfter_eq_mod {m : Nat} (hm : 1 ≤ m) (i : Nat) : kptrAfter m i = i % m := by
  induction i with
  | zero => simp [kptrAfter]
  | succ i ih =>
    have hlt : i % m < m := Nat.mod_lt _ hm
    rw [kptrAfter, ih, kptrNext, ← Nat.mod_add_mod i m 1]
    split_ifs with h
    · rw [h, Nat.mod_self]
    · exact (Nat.mod_eq_of_lt (by omega)).symm

theorem kptrAfter_lt {m : Nat} (hm : 1 ≤ m) (i : Nat) : kptrAfter m i < m := by
  rw [kptrAfter_eq_mod hm]
  exact Nat.mod_lt _ hm

end Sys2Proof.Machine
end

section
/-! SUPPORT. The writes of the host port, location by location (20_memory.md R59, R63), and what no
access changes. -/

namespace Sys2Proof.Machine

/-- A STATUS write leaves DONE set exactly where bit 1 is 0 (10_state.md R35). -/
theorem writeStatus_eq (w : Word) (s : State) :
    writeStatus w s = { s with done := s.done && !w.getLsbD 1 } := by
  unfold writeStatus
  cases w.getLsbD 1 <;> simp [acknowledge]

/-- wdata[31:8] = 0 says that the word is below 256 (20_memory.md R63). -/
theorem symbolBits_eq_zero_iff (w : Word) : w.extractLsb' 8 24 = 0#24 ↔ w.toNat < 256 := by
  rw [← BitVec.toNat_inj, BitVec.extractLsb'_toNat, Nat.shiftRight_eq_div_pow]
  simp only [BitVec.toNat_ofNat]
  omega

theorem symbolWrite_okay {w : Word} (hw : w.toNat < 256) (t : State) :
    symbolWrite w t = .okay 0#32 t :=
  if_pos ((symbolBits_eq_zero_iff w).2 hw)

theorem symbolWrite_error {w : Word} (hw : 256 ≤ w.toNat) (t : State) :
    symbolWrite w t = .error .data :=
  if_neg (mt (symbolBits_eq_zero_iff w).1 (by omega))

/-- The low byte of a word below 256 is the word. -/
theorem symbol_toNat {w : Word} (hw : w.toNat < 256) : (w.extractLsb' 0 8).toNat = w.toNat := by
  simpa [BitVec.extractLsb'_toNat] using hw

theorem unlessBusy_idle {s : State} (hb : s.busy = false) (r : AccessResult) :
    unlessBusy s r = r := by
  simp [unlessBusy, hb]

theorem unlessBusy_busy {s : State} (hb : s.busy = true) (r : AccessResult) :
    unlessBusy s r = .error .busy := by
  simp [unlessBusy, hb]

theorem memWrite_status (w : Word) (s : State) :
    memWrite HostReg.status.addr w s =
      .okay 0#32 { s with done := s.done && !w.getLsbD 1 } := by
  rw [memWrite, target_status, ← writeStatus_eq]
  rfl

theorem memWrite_ctrl (w : Word) (s : State) :
    memWrite HostReg.ctrl.addr w s = unlessBusy s (.okay 0#32 (writeCtrl w s)) := by
  rw [memWrite, target_ctrl]
  rfl

theorem memWrite_shiftKey {s : State} (hb : s.busy = false) (w : Word) :
    memWrite HostReg.shiftKey.addr w s = .okay 0#32 { s with shiftKey := w } := by
  rw [memWrite, target_shiftKey]
  exact unlessBusy_idle hb _

theorem memWrite_textLen {s : State} (hb : s.busy = false) (w : Word) :
    memWrite HostReg.textLen.addr w s =
      .okay 0#32 { s with textLen := min w.toNat s.params.textDepth } := by
  rw [memWrite, target_textLen]
  exact unlessBusy_idle hb _

theorem memWrite_keyLen {s : State} (hb : s.busy = false) (w : Word) :
    memWrite HostReg.keyLen.addr w s =
      .okay 0#32 { s with keyLen := min w.toNat s.params.keyDepth } := by
  rw [memWrite, target_keyLen]
  exact unlessBusy_idle hb _

/-- A TIN write while BUSY = 0 is a symbol write (20_memory.md R63). -/
theorem serve_write_tin {s : State} (hp : s.params.wellFormed = true) (hb : s.busy = false)
    {i : Nat} (hi : i < s.params.textDepth) (w : Word) :
    serve (writeRequest (tinAddr i) w) s =
      answer s (symbolWrite w (writeTin i (w.extractLsb' 0 8) s)) := by
  have hd := depths_of_wellFormed hp
  rw [serve_write (tinAddr_aligned (by omega)), memWrite, target_tinAddr hp hi]
  exact congrArg _ (unlessBusy_idle hb _)

/-- A KEY write while BUSY = 0 is a symbol write (20_memory.md R63). -/
theorem serve_write_key {s : State} (hp : s.params.wellFormed = true) (hb : s.busy = false)
    {j : Nat} (hj : j < s.params.keyDepth) (w : Word) :
    serve (writeRequest (keyAddr j) w) s =
      answer s (symbolWrite w (writeKey j (w.extractLsb' 0 8) s)) := by
  have hd := depths_of_wellFormed hp
  rw [serve_write (keyAddr_aligned (by omega)), memWrite, target_keyAddr hp hj]
  exact congrArg _ (unlessBusy_idle hb _)

/-- No write that MemWrite accepts touches OUT_LEN or VALID (20_memory.md R59). -/
theorem WriteEffect.keeps_results {w : Word} {s t : State} (he : WriteEffect w s t) :
    t.outLen = s.outLen ∧ t.valid = s.valid := by
  cases he with
  | status => simp [writeStatus_eq]
  | _ => exact ⟨rfl, rfl⟩

/-- No access touches OUT_LEN or VALID. -/
theorem serve_keeps_results (r : Request) (s : State) :
    (serve r s).outLen = s.outLen ∧ (serve r s).valid = s.valid := by
  obtain ⟨c, -, hs⟩ | ⟨-, d, n, hs⟩ | ⟨-, t, he, hs⟩ := serve_cases r s <;> rw [hs]
  · exact ⟨rfl, rfl⟩
  · exact ⟨rfl, rfl⟩
  · exact he.keeps_results

/-- A write clears BUSY in no case: only CMD touches it, and CMD sets it. -/
theorem WriteEffect.keeps_busy {w : Word} {s t : State} (he : WriteEffect w s t) (hb : s.busy = true) :
    t.busy = true := by
  cases he with
  | status => simpa [writeStatus_eq] using hb
  | cmd => rfl
  | _ => exact hb

/-- No access clears BUSY. -/
theorem serve_keeps_busy (r : Request) {s : State} (hb : s.busy = true) : (serve r s).busy = true := by
  obtain ⟨c, -, hs⟩ | ⟨-, d, n, hs⟩ | ⟨-, t, he, hs⟩ := serve_cases r s <;> rw [hs]
  · exact hb
  · exact hb
  · exact he.keeps_busy hb

theorem eq_three_of_regTarget_cmd {n : Nat} (h : regTarget n = .cmd) : n = 3 := by
  unfold regTarget at h
  split at h
  case h_4 => rfl
  all_goals contradiction

/-- Only the aligned address 0x000C leads to CMD (10_state.md R23). -/
theorem addr_of_target_cmd {p : Params} {a : Addr} (ha : a.extractLsb' 0 2 = 0#2)
    (ht : target p a = .cmd) : a = HostReg.cmd.addr := by
  have h4 : a.toNat % 4 = 0 := by
    simpa [BitVec.extractLsb'_toNat] using congrArg BitVec.toNat ha
  unfold target at ht
  dsimp only at ht
  split at ht
  case h_1 hpage =>
    have hword := eq_three_of_regTarget_cmd ht
    refine BitVec.eq_of_toNat_eq (Eq.trans ?_ (rfl : 12 = _))
    omega
  all_goals (try split_ifs at ht) <;> contradiction

/-- An accepted symbol write leaves the state it was given to store. -/
theorem state_of_symbolWrite_okay {w d : Word} {s t : State}
    (h : symbolWrite w s = .okay d t) : t = s := by
  unfold symbolWrite wrote at h
  split_ifs at h
  cases h
  rfl

/-- While BUSY = 0 an accepted write to any location but CMD leaves BUSY at 0. -/
theorem memWrite_keeps_idle {a : Addr} {w d : Word} {s t : State}
    (h : memWrite a w s = .okay d t) (hs : s.busy = false) (hne : target s.params a ≠ .cmd) :
    t.busy = false := by
  unfold memWrite at h
  cases htg : target s.params a with
  | cmd => exact absurd htg hne
  | status =>
    rw [htg] at h
    cases h
    simpa [writeStatus_eq] using hs
  | tin i =>
    simp only [htg, unlessBusy_idle hs] at h
    rwa [state_of_symbolWrite_okay h]
  | key j =>
    simp only [htg, unlessBusy_idle hs] at h
    rwa [state_of_symbolWrite_okay h]
  | _ =>
    simp only [htg, unlessBusy_idle hs, wrote] at h
    cases h <;> exact hs

/-- An access sets BUSY only as a size-4 write to CMD (10_state.md R30). -/
theorem request_of_serve_sets_busy {r : Request} {s : State} (hs : s.busy = false)
    (ht : (serve r s).busy = true) :
    r.kind = .write ∧ r.size = .four ∧ r.addr = HostReg.cmd.addr := by
  unfold serve at ht
  cases h : hostAccess r s with
  | error c =>
    rw [h] at ht
    exact absurd (hs.symm.trans ht) (by decide)
  | okay d t =>
    rw [h] at ht
    change t.busy = true at ht
    unfold hostAccess at h
    split_ifs at h with hsize halign
    cases hk : r.kind with
    | read =>
      rw [hk] at h
      obtain rfl | rfl := memRead_okay h <;> exact absurd (hs.symm.trans ht) (by decide)
    | write =>
      rw [hk] at h
      refine ⟨rfl, hsize, addr_of_target_cmd (p := s.params) halign ?_⟩
      by_contra hne
      exact absurd ((memWrite_keeps_idle h hs hne).symm.trans ht) (by decide)

end Sys2Proof.Machine
end

section
/-! SUPPORT. The block invariant in two parts, the parameters, lengths, counters and buffers apart
from the run status; each operation keeps the first part, and the whole of it where it ends a step. -/

namespace Sys2Proof.Machine

/-- The part of the block invariant that a command's body keeps: everything but what ties BUSY, PHASE,
the flags and rst together (10_state.md R44, R48; 60_exceptions.md R149). -/
structure DataInv (s : State) : Prop where
  params : s.params.wellFormed = true
  errLegal : s.err = 0#4 ∨ s.err = errIllegalOp ∨ s.err = errKeyEmpty
  textLen : s.textLen ≤ s.params.textDepth
  keyLen : s.keyLen ≤ s.params.keyDepth
  outLen : s.outLen ≤ s.params.textDepth
  pos : s.pos ≤ s.params.textDepth
  kptr : s.kptr < s.params.keyDepth
  tin : Memory.wf s.params.textDepth s.tin
  key : Memory.wf s.params.keyDepth s.key
  tout : Memory.wf s.params.textDepth s.tout

theorem BlockInv.data {s : State} (h : BlockInv s) : DataInv s := { h with }

/-- The end of complete() restores the ties that a running command's body leaves aside. -/
theorem DataInv.complete {s : State} (h : DataInv s) (hr : s.rst = false) :
    BlockInv (complete s) :=
  { h with
    busyIffRun := by simp
    runningClear := by simp
    held := by simp [hr] }

theorem DataInv.keyEmpty {s : State} (h : DataInv s) : DataInv (keyEmpty s) :=
  { h with
    errLegal := .inr (.inr rfl)
    outLen := Nat.zero_le _ }

theorem DataInv.xform {s : State} (h : DataInv s) {n : Nat} (hn : n ≤ s.params.textDepth)
    (f : Nat → Int) : DataInv (xform n f s) :=
  { h with
    outLen := hn
    pos := hn
    tout := writeResults_wf f h.tout hn }

theorem DataInv.xformKeyed {s : State} (h : DataInv s) {n : Nat} (hn : n ≤ s.params.textDepth)
    (hk : s.keyLen ≠ 0) (f : Nat → Int) : DataInv (xformKeyed n f s) :=
  { h.xform hn f with
    kptr := (kptrAfter_lt (Nat.one_le_iff_ne_zero.2 hk) n).trans_le h.keyLen }

theorem DataInv.setValid {s : State} (h : DataInv s) (b : Bool) :
    DataInv { s with valid := b } := { h with }

theorem commandBody_dataInv (i : Instr) {s : State} (h : DataInv s) :
    DataInv (commandBody i s) := by
  cases i with
  | validate => exact h.setValid _
  | knorm => exact { h with }
  | shenc => exact h.xform h.textLen _
  | shdec => exact h.xform h.textLen _
  | rkenc =>
    obtain ⟨-, hb⟩ | ⟨-, -, hb⟩ | ⟨-, hk, hb⟩ := rkencBody_cases s <;> rw [commandBody, hb]
    · exact { h with outLen := Nat.zero_le _ }
    · exact (h.setValid true).keyEmpty
    · exact (h.setValid true).xformKeyed h.textLen hk _
  | rkdec =>
    obtain ⟨-, hb⟩ | ⟨hk, hb⟩ := rkdecBody_cases s <;> rw [commandBody, hb]
    · exact h.keyEmpty
    · exact h.xformKeyed h.textLen hk _

/-- The engine's completion, of a command or of a reserved word, keeps the invariant. -/
theorem engineStep_blockInv {s t : State} (h : BlockInv s) (hr : s.rst = false)
    (hs : engineStep s = .next t) : BlockInv t := by
  obtain ⟨i, -, rfl⟩ | ⟨why, -, rfl⟩ := engineStep_cases hs
  · exact (commandBody_dataInv i h.data).complete ((commandBody_frame i s).rst.trans hr)
  · exact DataInv.complete { h.data with errLegal := .inr (.inl rfl) } hr

/-- The invariant does not speak of the model's own pending moves, response and race counter. -/
theorem BlockInv.setOwn {s : State} (h : BlockInv s) (moves : List Pending)
    (q : Option Response) (n : Nat) :
    BlockInv { s with pending := moves, response := q, raceCount := n } :=
  { h with held := fun hr => { h.held hr with } }

/-- Every write that MemWrite accepts keeps the invariant while rst = 0. -/
theorem WriteEffect.blockInv {w : Word} {s t : State} (he : WriteEffect w s t) (h : BlockInv s)
    (hr : s.rst = false) : BlockInv t := by
  have notHeld {u : State} (hu : u.rst = false) : u.rst = true → AtReset u := by simp [hu]
  cases he with
  | status =>
    rw [writeStatus_eq]
    exact
      { h with
        runningClear := fun hp => ⟨by simp [(h.runningClear hp).1], (h.runningClear hp).2⟩
        held := notHeld hr }
  | ctrl => exact { h with held := notHeld hr }
  | cmd =>
    exact
      { h with
        busyIffRun := by simp
        runningClear := fun _ => ⟨rfl, rfl, rfl⟩
        errLegal := .inl rfl
        held := notHeld hr }
  | shiftKey => exact { h with held := notHeld hr }
  | textLen => exact { h with textLen := Nat.min_le_right _ _, held := notHeld hr }
  | keyLen => exact { h with keyLen := Nat.min_le_right _ _, held := notHeld hr }
  | tin _ i hi => exact { h with tin := write_wf _ h.tin hi, held := notHeld hr }
  | key _ j hj => exact { h with key := write_wf _ h.key hj, held := notHeld hr }

theorem serve_blockInv {s : State} (h : BlockInv s) (hr : s.rst = false) (r : Request) :
    BlockInv (serve r s) := by
  obtain ⟨c, -, hs⟩ | ⟨-, d, n, hs⟩ | ⟨-, t, he, hs⟩ := serve_cases r s <;> rw [hs]
  · exact h.setOwn _ _ _
  · exact h.setOwn _ _ _
  · exact (he.blockInv h hr).setOwn _ _ _

theorem resetEdge_atReset (s : State) : AtReset (resetEdge s) := by constructor <;> rfl

/-- A buffer that a reset edge keeps or forgets stays canonical (70_reset_and_hazards.md R177). -/
theorem wf_kept_or_forgotten {w d : Nat} {m : Memory w} (hm : Memory.wf d m) (kept : Bool) :
    Memory.wf d (if kept then m else []) := by
  cases kept
  · exact nil_wf d
  · exact hm

theorem resetEdge_blockInv {s : State} (h : BlockInv s) : BlockInv (resetEdge s) where
  params := h.params
  busyIffRun := by simp
  runningClear := by simp
  errLegal := .inl rfl
  textLen := Nat.zero_le _
  keyLen := Nat.zero_le _
  outLen := Nat.zero_le _
  pos := Nat.zero_le _
  kptr := Nat.zero_lt_of_lt h.kptr
  tin := wf_kept_or_forgotten h.tin _
  key := wf_kept_or_forgotten h.key _
  tout := wf_kept_or_forgotten h.tout _
  held _ := resetEdge_atReset s

theorem releaseReset_blockInv {s : State} (h : BlockInv s) : BlockInv (releaseReset s) :=
  { h with held := by simp }

/-- Settles O60: each kind of step, the engine's completion, the idle step, a reset edge, the release
of reset and a served access, keeps the invariant. -/
theorem everyStepKeepsInvariant : Obligations.EveryStepKeepsInvariant := by
  intro s t h hs
  obtain ⟨⟨-, hr, -⟩, he⟩ | ⟨-, -, rfl⟩ | ⟨p, rest, -, hw⟩ := step_cases hs
  · exact engineStep_blockInv h hr he
  · exact h
  · have hp : BlockInv { s with pending := rest } := h.setOwn rest _ _
    obtain ⟨-, rfl⟩ | ⟨-, rfl⟩ | ⟨r, -, hr, rfl⟩ := hw
    · exact resetEdge_blockInv hp
    · exact releaseReset_blockInv hp
    · exact serve_blockInv hp hr r

/-- Settles O59: every field of the reset state is a literal within its bound. -/
theorem resetMeetsInvariant : Obligations.ResetMeetsInvariant where
  params := by decide
  busyIffRun := by decide
  runningClear := by decide
  errLegal := .inl rfl
  textLen := Nat.zero_le _
  keyLen := Nat.zero_le _
  outLen := Nat.zero_le _
  pos := Nat.zero_le _
  kptr := by decide
  tin := nil_wf _
  key := nil_wf _
  tout := nil_wf _
  held hr := absurd hr (by decide)

end Sys2Proof.Machine
end

section
/-! SUPPORT. Which step can change OUT_LEN, VALID or BUSY (10_state.md R30, R32, R39). -/

namespace Sys2Proof.Machine

/-- A field that no access and no release of reset changes is changed by a completion or by a clock
edge with rst = 1. -/
theorem step_changes {α : Type} (f : State → α) (hserve : ∀ r s, f (serve r s) = f s)
    (hrelease : ∀ s, f (releaseReset s) = f s)
    (hpending : ∀ s moves, f { s with pending := moves } = f s) {s t : State}
    (h : step s = .next t) (hne : f t ≠ f s) :
    (EngineReady s ∧ engineStep s = .next t) ∨
    ∃ p rest, WorldReady s p rest ∧ p.event = .rst true := by
  obtain he | ⟨-, -, rfl⟩ | ⟨p, rest, hw, ⟨hp, -⟩ | ⟨-, rfl⟩ | ⟨r, -, -, rfl⟩⟩ := step_cases h
  · exact .inl he
  · exact absurd rfl hne
  · exact .inr ⟨p, rest, hw, hp⟩
  · exact absurd ((hrelease _).trans (hpending s rest)) hne
  · exact absurd ((hserve r _).trans (hpending s rest)) hne

/-- VALIDATE and KNORM leave OUT_LEN (10_state.md R39). -/
theorem commandBody_outLen (i : Instr) (s : State) (hne : (commandBody i s).outLen ≠ s.outLen) :
    i = .shenc ∨ i = .shdec ∨ i = .rkenc ∨ i = .rkdec := by
  cases i with
  | validate => exact absurd rfl hne
  | knorm => exact absurd rfl hne
  | _ => simp

/-- Only VALIDATE and RKENC touch VALID (10_state.md R32). -/
theorem commandBody_valid (i : Instr) (s : State) (hne : (commandBody i s).valid ≠ s.valid) :
    i = .validate ∨ i = .rkenc := by
  cases i with
  | validate => exact .inl rfl
  | rkenc => exact .inr rfl
  | rkdec =>
    obtain ⟨-, h⟩ | ⟨-, h⟩ := rkdecBody_cases s <;>
      exact absurd (congrArg State.valid h) hne
  | _ => exact absurd rfl hne

/-- Settles O51: by `step_changes`, and by what each command's body does to OUT_LEN. -/
theorem onlyStringCommandsWriteOutLen : Obligations.OnlyStringCommandsWriteOutLen := by
  intro s t h hne
  refine (step_changes State.outLen (fun r s => (serve_keeps_results r s).1) (fun _ => rfl)
    (fun _ _ => rfl) h hne).imp_left fun ⟨hr, he⟩ => ⟨hr, ?_⟩
  obtain ⟨i, hd, rfl⟩ | ⟨why, -, rfl⟩ := engineStep_cases he
  · simpa [hd] using commandBody_outLen i s hne
  · exact absurd rfl hne

/-- Settles O52: by `step_changes`, and by what each command's body does to VALID. -/
theorem onlyValidationWritesValid : Obligations.OnlyValidationWritesValid := by
  intro s t h hne
  refine (step_changes State.valid (fun r s => (serve_keeps_results r s).2) (fun _ => rfl)
    (fun _ _ => rfl) h hne).imp_left fun ⟨hr, he⟩ => ⟨hr, ?_⟩
  obtain ⟨i, hd, rfl⟩ | ⟨why, -, rfl⟩ := engineStep_cases he
  · simpa [hd] using commandBody_valid i s hne
  · exact absurd rfl hne

/-- A step that sets BUSY serves a size-4 write to CMD (10_state.md R30). -/
theorem step_sets_busy {s t : State} (h : step s = .next t) (hs : s.busy = false)
    (ht : t.busy = true) :
    ∃ p rest r, WorldReady s p rest ∧ p.event = .access r ∧
      r.kind = .write ∧ r.size = .four ∧ r.addr = HostReg.cmd.addr := by
  obtain ⟨-, he⟩ | ⟨-, -, rfl⟩ | ⟨p, rest, hw, ⟨-, rfl⟩ | ⟨-, rfl⟩ | ⟨r, hp, -, rfl⟩⟩ :=
    step_cases h
  · simp [(engineStep_completed he).busy] at ht
  · simp [hs] at ht
  · simp at ht
  · simp [hs] at ht
  · exact ⟨p, rest, r, hw, hp, request_of_serve_sets_busy (s := { s with pending := rest }) hs ht⟩

/-- A step that clears BUSY is a completion or a clock edge with rst = 1 (10_state.md R30). -/
theorem step_clears_busy {s t : State} (h : step s = .next t) (hs : s.busy = true)
    (ht : t.busy = false) :
    EngineReady s ∨ ∃ p rest, WorldReady s p rest ∧ p.event = .rst true := by
  obtain ⟨hr, -⟩ | ⟨-, -, rfl⟩ | ⟨p, rest, hw, ⟨hp, -⟩ | ⟨-, rfl⟩ | ⟨r, -, -, rfl⟩⟩ :=
    step_cases h
  · exact .inl hr
  · simp [hs] at ht
  · exact .inr ⟨p, rest, hw, hp⟩
  · simp [hs] at ht
  · simp [serve_keeps_busy r (s := { s with pending := rest }) hs] at ht

/-- Settles O53: by the cases of a step, once for each direction. -/
theorem onlyAcceptanceSetsBusy : Obligations.OnlyAcceptanceSetsBusy :=
  fun _ _ h => ⟨step_sets_busy h, step_clears_busy h⟩

end Sys2Proof.Machine
end

section
/-! SUPPORT. The host's writes to CTRL, STATUS, the operand registers and the buffers
(10_state.md R27, R35 to R41). -/

namespace Sys2Proof.Machine

/-- Settles O46: CTRL is reached at 0x0008 and its write waits on BUSY alone. -/
theorem ctrlWriteSetsItsTwoBits : Obligations.CtrlWriteSetsItsTwoBits := by
  intro s w
  have hw : serve (writeRequest HostReg.ctrl.addr w) s =
      answer s (unlessBusy s (.okay 0#32 (writeCtrl w s))) := by
    rw [serve_write (regAddr_aligned .ctrl), memWrite_ctrl]
  have hr : serve (readRequest HostReg.ctrl.addr) s = answer s (.okay (ctrlWord s) s) := by
    rw [serve_read (regAddr_aligned .ctrl), memRead, target_ctrl]
  refine ⟨fun hb => hw.trans ?_, fun hb => hw.trans ?_, congrArg State.response hr⟩
  · rw [unlessBusy_idle hb]
    rfl
  · rw [unlessBusy_busy hb]
    rfl

/-- Settles O49: STATUS is reached at 0x0010 and its write does not wait on BUSY. -/
theorem statusWriteClearsDone : Obligations.StatusWriteClearsDone := by
  intro s w
  have hw : serve (writeRequest HostReg.status.addr w) s =
      answer s (.okay 0#32 { s with done := s.done && !w.getLsbD 1 }) := by
    rw [serve_write (regAddr_aligned .status), memWrite_status]
  have hr : serve (readRequest HostReg.status.addr) s = answer s (.okay (statusWord s) s) := by
    rw [serve_read (regAddr_aligned .status), memRead, target_status]
  exact ⟨hw, congrArg State.response hr⟩

/-- Settles O47: each of the three registers stores its word, a length clamped to its depth. -/
theorem operandWritesStoreAndClamp : Obligations.OperandWritesStoreAndClamp := by
  intro s w hb
  have hw (g : HostReg) := serve_write (regAddr_aligned g) w s
  exact ⟨(hw .shiftKey).trans (congrArg (answer s) (memWrite_shiftKey hb w)),
    (hw .textLen).trans (congrArg (answer s) (memWrite_textLen hb w)),
    (hw .keyLen).trans (congrArg (answer s) (memWrite_keyLen hb w))⟩

/-- Settles O48: a word below 256 is stored by the buffer's own write, and a larger one is refused. -/
theorem symbolWritesStoreOneCode : Obligations.SymbolWritesStoreOneCode := by
  intro s w hp hb
  refine ⟨fun i hi hw => ⟨_, rfl, ?_⟩, fun j hj hw => ⟨_, rfl, ?_⟩, ?_⟩
  · rw [serve_write_tin hp hb hi, symbolWrite_okay hw]
    refine ⟨rfl, ?_, fun k hk => readTin_writeTin_other _ s hk⟩
    exact (congrArg BitVec.toNat (readTin_writeTin_same i _ s)).trans (symbol_toNat hw)
  · rw [serve_write_key hp hb hj, symbolWrite_okay hw]
    refine ⟨rfl, ?_, fun k hk => readKey_writeKey_other _ s hk⟩
    exact (congrArg BitVec.toNat (readKey_writeKey_same j _ s)).trans (symbol_toNat hw)
  · rintro a (⟨i, hi, rfl⟩ | ⟨j, hj, rfl⟩) hw
    · rw [serve_write_tin hp hb hi, symbolWrite_error hw]
      rfl
    · rw [serve_write_key hp hb hj, symbolWrite_error hw]
      rfl

end Sys2Proof.Machine
end

section
/-! SUPPORT. What the commands do with the hidden counters, and what they do not depend on: WRAPSYM
outside the shift cipher, and the entries at or beyond the lengths (10_state.md R26, R40, R41, R44). -/

namespace Sys2Proof.Machine

/-- The text is in the alphabet exactly when RKENC's gate passes (40_datapath.md R100). -/
theorem allValid_iff_textInAlphabet (s : State) :
    allValid s.textLen s = true ↔ TextInAlphabet s :=
  allValid_iff s.textLen s

/-- With a key, a transform leaves POS and KPTR after the last position (log entry 6). -/
theorem xformKeyed_counters {n : Nat} (f : Nat → Int) {s : State} (hk : 1 ≤ s.keyLen) :
    (xformKeyed n f s).pos = n ∧ (xformKeyed n f s).kptr = n % s.keyLen :=
  ⟨rfl, kptrAfter_eq_mod hk n⟩

/-- Settles O28: by the check of RKENC and RKDEC that applies, and R104's counter for a transform. -/
theorem hiddenCountersAfterCommands : Obligations.HiddenCountersAfterCommands := by
  intro s
  refine ⟨?_, ?_, ?_, ?_, ?_⟩
  · rintro i t (rfl | rfl) h <;> rw [exec_next_iff.1 h] <;> exact ⟨rfl, rfl⟩
  · rintro i t (rfl | rfl) h <;> rw [exec_next_iff.1 h] <;> exact ⟨rfl, rfl⟩
  · rintro i t (⟨rfl, hv⟩ | rfl) h hk
    · rw [exec_next_iff.1 h, commandBody,
        rkencBody_keyed ((allValid_iff_textInAlphabet s).2 hv) (by omega)]
      exact xformKeyed_counters (rkencResult s) hk
    · rw [exec_next_iff.1 h, commandBody, rkdecBody_keyed (by omega)]
      exact xformKeyed_counters (rkdecResult s) hk
  · rintro i t (rfl | rfl) h hk
    · rw [exec_next_iff.1 h, commandBody]
      cases hv : allValid s.textLen s with
      | false =>
        rw [rkencBody_invalid hv]
        exact ⟨rfl, rfl⟩
      | true =>
        rw [rkencBody_noKey hv hk]
        exact ⟨rfl, rfl⟩
    · rw [exec_next_iff.1 h, commandBody, rkdecBody_noKey hk]
      exact ⟨rfl, rfl⟩
  · intro t hv h
    rw [← allValid_iff_textInAlphabet, Bool.not_eq_true] at hv
    rw [exec_next_iff.1 h, commandBody, rkencBody_invalid hv]
    exact ⟨rfl, rfl⟩

/-- Another WRAPSYM bit and other buffers in the place of the block's own. -/
def replaceOperands (b : Bool) (m k : Memory 8) (s : State) : State :=
  { s with wrapSym := b, tin := m, key := k }

theorem replaceOperands_sameWrapSym {b : Bool} {t : State} (h : t.wrapSym = b) (m k : Memory 8) :
    replaceOperands b m k t = { t with tin := m, key := k } := by
  subst h
  rfl

theorem replaceOperands_sameBuffers {m k : Memory 8} {t : State} (hm : t.tin = m)
    (hk : t.key = k) (b : Bool) : replaceOperands b m k t = { t with wrapSym := b } := by
  subst hm hk
  rfl

/-- The buffers `m` and `k` read like the block's own below the lengths (10_state.md R40, R41). -/
structure SameOperands (m k : Memory 8) (s : State) : Prop where
  text : ∀ j < s.textLen, readTin { s with tin := m } j = readTin s j
  key : ∀ j < s.keyLen, readKey { s with key := k } j = readKey s j

theorem SameOperands.own (s : State) : SameOperands s.tin s.key s :=
  ⟨fun _ _ => rfl, fun _ _ => rfl⟩

theorem writeResults_congr {n : Nat} {f g : Nat → Int} (h : ∀ i < n, f i = g i) (m : Memory 9) :
    writeResults n f m = writeResults n g m := by
  induction n with
  | zero => rfl
  | succ n ih =>
    rw [writeResults, writeResults, ih fun i hi => h i (by omega), h n (by omega)]

theorem anyOor_congr {n : Nat} {f g : Nat → Int} (h : ∀ i < n, f i = g i) :
    anyOor n f = anyOor n g := by
  refine Bool.eq_iff_iff.2 ?_
  simp only [anyOor_iff]
  exact exists_congr fun i => and_congr_right fun hi => by rw [h i hi]

/-- XFORM depends on its function only at the positions below n (40_datapath.md R111). -/
theorem xform_congr {n : Nat} {f g : Nat → Int} (h : ∀ i < n, f i = g i) (s : State) :
    xform n f s = xform n g s := by
  rw [xform, xform, writeResults_congr h, anyOor_congr h]

theorem xformKeyed_congr {n : Nat} {f g : Nat → Int} (h : ∀ i < n, f i = g i) (s : State) :
    xformKeyed n f s = xformKeyed n g s := by
  rw [xformKeyed, xformKeyed, xform_congr h]

section
variable {m k : Memory 8} {s : State} (h : SameOperands m k s) (b : Bool)
include h

theorem SameOperands.textCode {j : Nat} (hj : j < s.textLen) :
    textCode (replaceOperands b m k s) j = textCode s j :=
  congrArg (fun v : Sym => (v.toNat : Int)) (h.text j hj)

/-- Every position of a text under a key reads a key symbol below KEY_LEN (40_datapath.md R104). -/
theorem SameOperands.ksym (hk : s.keyLen ≠ 0) (j : Nat) :
    ksym (replaceOperands b m k s) j = ksym s j :=
  congrArg (fun v : Sym => (v.toNat : Int))
    (h.key (j % s.keyLen) (Nat.mod_lt _ (Nat.pos_of_ne_zero hk)))

theorem SameOperands.allValid :
    allValid s.textLen (replaceOperands b m k s) = allValid s.textLen s := by
  refine Bool.eq_iff_iff.2 ?_
  simp only [allValid_iff]
  exact forall₂_congr fun j hj => by rw [h.textCode b hj]

/-- RKENC reads neither WRAPSYM nor an entry beyond the lengths. -/
theorem SameOperands.rkencBody :
    rkencBody (replaceOperands b m k s) = replaceOperands b m k (rkencBody s) := by
  cases hv : Machine.allValid s.textLen s with
  | false =>
    rw [rkencBody_invalid hv]
    exact rkencBody_invalid ((h.allValid b).trans hv)
  | true =>
    have hv' := (h.allValid b).trans hv
    by_cases hk : s.keyLen = 0
    · rw [rkencBody_noKey hv hk]
      exact rkencBody_noKey hv' hk
    · rw [rkencBody_keyed hv hk]
      refine (rkencBody_keyed (s := replaceOperands b m k s) hv' hk).trans (xformKeyed_congr ?_ _)
      intro j hj
      rw [rkencResult, h.textCode b hj, h.ksym b hk, rkencResult]

/-- RKDEC reads neither WRAPSYM nor an entry beyond the lengths. -/
theorem SameOperands.rkdecBody :
    rkdecBody (replaceOperands b m k s) = replaceOperands b m k (rkdecBody s) := by
  by_cases hk : s.keyLen = 0
  · rw [rkdecBody_noKey hk]
    exact rkdecBody_noKey hk
  · rw [rkdecBody_keyed hk]
    refine (rkdecBody_keyed (s := replaceOperands b m k s) hk).trans (xformKeyed_congr ?_ _)
    intro j hj
    rw [rkdecResult, h.textCode b hj, h.ksym b hk, rkdecResult]

/-- No body reads an entry beyond the lengths, and only SHENC and SHDEC read WRAPSYM. -/
theorem SameOperands.commandBody {i : Instr} (hb : i = .shenc ∨ i = .shdec → b = s.wrapSym) :
    commandBody i (replaceOperands b m k s) = replaceOperands b m k (commandBody i s) := by
  cases i with
  | validate =>
    exact congrArg (fun v => replaceOperands b m k { s with valid := v }) (h.allValid b)
  | knorm => rfl
  | shenc =>
    obtain rfl := hb (.inl rfl)
    refine xform_congr (s := replaceOperands s.wrapSym m k s) fun j hj => ?_
    rw [shencResult, h.textCode _ hj]
    rfl
  | shdec =>
    obtain rfl := hb (.inr rfl)
    refine xform_congr (s := replaceOperands s.wrapSym m k s) fun j hj => ?_
    rw [shdecResult, h.textCode _ hj]
    rfl
  | rkenc => exact h.rkencBody b
  | rkdec => exact h.rkdecBody b

end

/-- Settles O29: every body computes the same from operands that read alike below the lengths. -/
theorem commandsIgnoreEntriesBeyondTheLengths :
    Obligations.CommandsIgnoreEntriesBeyondTheLengths := by
  intro i s t m k htext hkey h
  rw [exec_next_iff] at h ⊢
  subst h
  have same : SameOperands m k s := ⟨htext, hkey⟩
  have body := (same.commandBody s.wrapSym (i := i) fun _ => rfl).trans
    (replaceOperands_sameWrapSym (commandBody_frame i s).wrapSym m k)
  exact (congrArg complete body).symm

/-- Settles O30: the four commands' bodies do not read WRAPSYM. -/
theorem wrapSymConcernsOnlyTheShiftCipher : Obligations.WrapSymConcernsOnlyTheShiftCipher := by
  intro i s t b hi h
  rw [exec_next_iff] at h ⊢
  subst h
  have noShift : i = .shenc ∨ i = .shdec → b = s.wrapSym := by
    obtain rfl | rfl | rfl | rfl := hi <;> simp
  obtain ⟨htin, hkey⟩ := commandBody_buffers i s
  have body := ((SameOperands.own s).commandBody b noShift).trans
    (replaceOperands_sameBuffers htin hkey b)
  exact (congrArg complete body).symm

end Sys2Proof.Machine
end

section
/-! SUPPORT. What the host port refuses (20_memory.md R56, R57, R59, R60), and the step that performs
a pending move (R53). -/

namespace Sys2Proof.Machine

/-- Settles O5: a ready world move excludes the engine's step, so the step is the world's. -/
theorem stepPerformsPendingMove : Obligations.StepPerformsPendingMove := by
  intro s p rest hw
  have hp : s.pending = p :: rest := hw.1
  have hstep : step s = hostStep p.event { s with pending := rest } := by
    rw [step_world ((worldReady_iff hp).1 hw), worldStep, hp]
  refine ⟨hstep, fun r hr hrst => ?_⟩
  rw [hstep, hr, hostStep, hrst]
  rfl

/-- Settles O41: of the three kinds of served access, only a refused one answers ERROR. -/
theorem errorResponseHasNoEffect : Obligations.ErrorResponseHasNoEffect := by
  intro s r d h
  obtain ⟨c, -, hs⟩ | ⟨-, d, n, hs⟩ | ⟨-, t, -, hs⟩ := serve_cases r s
  · exact hs
  · simp [hs] at h
  · simp [hs] at h

/-- An access that is refused has no effect but its response (20_memory.md R60). -/
theorem serve_error {r : Request} {s : State} {c : AccessError} (h : hostAccess r s = .error c) :
    serve r s = { s with response := some { resp := .error, rdata := 0#32 } } :=
  congrArg (answer s) h

/-- addr[1:0] = 0 says that the address is a multiple of 4 (20_memory.md R57). -/
theorem addrLowBits_eq_zero_iff (a : Addr) : a.extractLsb' 0 2 = 0#2 ↔ a.toNat % 4 = 0 := by
  simp [← BitVec.toNat_inj, BitVec.extractLsb'_toNat]

theorem hostAccess_size {r : Request} (h : r.size ≠ .four) (s : State) :
    hostAccess r s = .error .size :=
  if_neg h

theorem hostAccess_misaligned {r : Request} (hs : r.size = .four) (h : r.addr.toNat % 4 ≠ 0)
    (s : State) : hostAccess r s = .error .misaligned := by
  rw [hostAccess, if_pos hs, if_neg (mt (addrLowBits_eq_zero_iff r.addr).1 h)]

/-- Settles O39: by the size check, and for a size-4 access by the alignment check. -/
theorem illegalSizeOrAlignmentIsRefused : Obligations.IllegalSizeOrAlignmentIsRefused := by
  intro s r h
  by_cases hs : r.size = .four
  · exact serve_error (hostAccess_misaligned hs (h.resolve_left (not_not_intro hs)) s)
  · exact serve_error (hostAccess_size hs s)

theorem regTarget_unmapped {n : Nat} (h : 9 ≤ n) : regTarget n = .unmapped := by
  unfold regTarget
  split
  case h_10 => rfl
  all_goals omega

/-! The parts of the address map that lead nowhere (20_memory.md R56). -/

theorem target_beyond_registers (p : Params) {a : Addr} (h : 0x24 ≤ a.toNat)
    (ht : a.toNat < 0x1000) : target p a = .unmapped := by
  have hpage : a.toNat / 0x1000 = 0 := by omega
  simp only [target, hpage]
  exact regTarget_unmapped (by omega)

theorem target_beyond_tin {p : Params} {a : Addr} (h : 0x1000 + 4 * p.textDepth ≤ a.toNat)
    (ht : a.toNat < 0x2000) : target p a = .unmapped := by
  have hpage : a.toNat / 0x1000 = 1 := by omega
  simp only [target, hpage]
  exact if_neg (by omega)

theorem target_beyond_key {p : Params} {a : Addr} (h : 0x2000 + 4 * p.keyDepth ≤ a.toNat)
    (ht : a.toNat < 0x3000) : target p a = .unmapped := by
  have hpage : a.toNat / 0x1000 = 2 := by omega
  simp only [target, hpage]
  exact if_neg (by omega)

theorem target_beyond_tout {p : Params} {a : Addr} (h : 0x3000 + 4 * p.textDepth ≤ a.toNat) :
    target p a = .unmapped := by
  unfold target
  dsimp only
  split
  case h_4 => exact if_neg (by omega)
  case h_5 => rfl
  all_goals omega

/-- An access to no location is refused, whatever its kind and size (20_memory.md R56, R57). -/
theorem hostAccess_unmapped {r : Request} {s : State} (h : target s.params r.addr = .unmapped) :
    ∃ c, hostAccess r s = .error c := by
  unfold hostAccess
  split_ifs
  · cases r.kind with
    | read => exact ⟨.unmapped, by simp only [memRead, h]⟩
    | write => exact ⟨.unmapped, by simp only [memWrite, h]⟩
  · exact ⟨_, rfl⟩
  · exact ⟨_, rfl⟩

/-- Settles O40: each of the four ranges leads to no location. -/
theorem unmappedAddressesAreRefused : Obligations.UnmappedAddressesAreRefused := by
  intro s r _ h
  have hu : target s.params r.addr = .unmapped := by
    obtain ⟨hl, ht⟩ | ⟨hl, ht⟩ | ⟨hl, ht⟩ | hl := h
    · exact target_beyond_registers _ hl ht
    · exact target_beyond_tin hl ht
    · exact target_beyond_key hl ht
    · exact target_beyond_tout hl
  obtain ⟨c, hc⟩ := hostAccess_unmapped hu
  exact serve_error hc

/-- A write that MemWrite refuses has no effect but its response (20_memory.md R59, R60). -/
theorem serve_write_error {a : Addr} {w : Word} {s : State} {c : AccessError}
    (ha : a.extractLsb' 0 2 = 0#2) (h : memWrite a w s = .error c) :
    serve (writeRequest a w) s = { s with response := some { resp := .error, rdata := 0#32 } } :=
  (serve_write ha w s).trans (congrArg (answer s) h)

/-- Settles O45: MemWrite refuses ID, PARAM, OUT_LEN and every TOUT word as read-only. -/
theorem readOnlyWritesAreRefused : Obligations.ReadOnlyWritesAreRefused := by
  intro s w a hp h
  have hreg (g : HostReg) := serve_write_error (w := w) (s := s) (c := .readOnly) (regAddr_aligned g)
  obtain hm | ⟨i, hi, rfl⟩ := h
  · simp only [List.mem_cons, List.not_mem_nil, or_false] at hm
    obtain rfl | rfl | rfl := hm
    · exact hreg .id (by rw [memWrite, target_id])
    · exact hreg .param (by rw [memWrite, target_param])
    · exact hreg .outLen (by rw [memWrite, target_outLen])
  · have hd := depths_of_wellFormed hp
    refine serve_write_error (c := .readOnly) (toutAddr_aligned (by omega)) ?_
    rw [memWrite, target_toutAddr hp hi]

end Sys2Proof.Machine
end

section
/-! SUPPORT. What a read of each location returns (20_memory.md R58), and the words of PARAM, CTRL and
STATUS as numbers (10_state.md R25, R27, R35). -/

namespace Sys2Proof.Machine

/-- The word that a read of each register returns (20_memory.md R58). -/
def regWord (s : State) : HostReg → Word
  | .id => Config.idValue
  | .param => paramWord s.params
  | .ctrl => ctrlWord s
  | .cmd => 0#32
  | .status => statusWord s
  | .shiftKey => s.shiftKey
  | .textLen => BitVec.ofNat 32 s.textLen
  | .keyLen => BitVec.ofNat 32 s.keyLen
  | .outLen => BitVec.ofNat 32 s.outLen

theorem memRead_reg (g : HostReg) (s : State) : memRead g.addr s = .okay (regWord s g) s := by
  cases g <;> rfl

/-- A read that MemRead accepts answers with its word. -/
theorem serve_read_response {a : Addr} {d : Word} {s t : State} (ha : a.extractLsb' 0 2 = 0#2)
    (h : memRead a s = .okay d t) :
    (serve (readRequest a) s).response = some { resp := .okay, rdata := d } := by
  rw [serve_read ha, h]
  rfl

theorem serve_read_reg (g : HostReg) (s : State) :
    (serve (readRequest g.addr) s).response = some { resp := .okay, rdata := regWord s g } :=
  serve_read_response (regAddr_aligned g) (memRead_reg g s)

/-- Two bit fields side by side are one number. -/
theorem toNat_append_eq_add {n m : Nat} (x : BitVec n) (y : BitVec m) :
    (x ++ y).toNat = x.toNat * 2 ^ m + y.toNat := by
  rw [BitVec.toNat_append, ← Nat.shiftLeft_add_eq_or_of_lt y.isLt, Nat.shiftLeft_eq]

theorem paramWord_eq {p : Params} (hp : p.wellFormed = true) :
    paramWord p = BitVec.ofNat 32 (p.keyDepth * 65536 + p.textDepth) := by
  have hd := depths_of_wellFormed hp
  refine BitVec.eq_of_toNat_eq ?_
  simp only [paramWord, toNat_append_eq_add, BitVec.toNat_ofNat]
  omega

theorem ctrlWord_eq (s : State) :
    ctrlWord s = BitVec.ofNat 32 (s.ie.toNat * 2 + s.wrapSym.toNat) := by
  have hie := s.ie.toNat_le
  have hws := s.wrapSym.toNat_le
  refine BitVec.eq_of_toNat_eq ?_
  simp only [ctrlWord, toNat_append_eq_add, BitVec.toNat_ofNat, BitVec.toNat_ofBool]
  omega

theorem statusWord_eq (s : State) :
    statusWord s = BitVec.ofNat 32 (s.err.toNat * 16 + s.oor.toNat * 8 + s.valid.toNat * 4 +
      s.done.toNat * 2 + s.busy.toNat) := by
  have herr := s.err.isLt
  have hoor := s.oor.toNat_le
  have hvalid := s.valid.toNat_le
  have hdone := s.done.toNat_le
  have hbusy := s.busy.toNat_le
  refine BitVec.eq_of_toNat_eq ?_
  simp only [statusWord, toNat_append_eq_add, BitVec.toNat_ofNat, BitVec.toNat_ofBool]
  omega

/-- No read changes anything but the response and the race counter (20_memory.md R58). -/
theorem serve_read_frame (a : Addr) (s : State) :
    ∃ q n, serve (readRequest a) s = { s with response := some q, raceCount := n } := by
  obtain ⟨c, -, hs⟩ | ⟨-, d, n, hs⟩ | ⟨hk, -⟩ := serve_cases (readRequest a) s
  · exact ⟨_, s.raceCount, hs⟩
  · exact ⟨_, n, hs⟩
  · exact absurd hk (by simp [readRequest])

theorem raceTout_old_or_new (s : State) (i : Nat) :
    raceTout s i = readTout s i ∨ raceTout s i = newTout s i := by
  unfold raceTout
  split_ifs
  · exact .inr rfl
  · exact .inl rfl

section
variable {s : State} (hp : s.params.wellFormed = true)
include hp

theorem serve_read_tin {i : Nat} (hi : i < s.params.textDepth) :
    (serve (readRequest (tinAddr i)) s).response =
      some { resp := .okay, rdata := (readTin s i).zeroExtend 32 } := by
  have hd := depths_of_wellFormed hp
  refine serve_read_response (t := s) (tinAddr_aligned (by omega)) ?_
  rw [memRead, target_tinAddr hp hi]

theorem serve_read_key {j : Nat} (hj : j < s.params.keyDepth) :
    (serve (readRequest (keyAddr j)) s).response =
      some { resp := .okay, rdata := (readKey s j).zeroExtend 32 } := by
  have hd := depths_of_wellFormed hp
  refine serve_read_response (t := s) (keyAddr_aligned (by omega)) ?_
  rw [memRead, target_keyAddr hp hj]

/-- A TOUT read is exact while BUSY = 0 and a race while BUSY = 1 (40_datapath.md R110). -/
theorem serve_read_tout {i : Nat} (hi : i < s.params.textDepth) :
    (serve (readRequest (toutAddr i)) s).response =
      some { resp := .okay,
             rdata := (if s.busy then raceTout s i else readTout s i).zeroExtend 32 } := by
  have hd := depths_of_wellFormed hp
  rw [serve_read (toutAddr_aligned (by omega)), memRead, target_toutAddr hp hi]
  cases hb : s.busy <;> simp [readToutPort, hb, answer]

end

/-- Settles O42: register by register, then the three buffers. -/
theorem readsReturnTheLocations : Obligations.ReadsReturnTheLocations := by
  intro s hp
  refine ⟨fun a => serve_read_frame a s, fun a w h => ?_, fun i => serve_read_tin hp,
    fun j => serve_read_key hp, fun i hi hb => ?_, fun i hi hb => ?_⟩
  · rw [← paramWord_eq hp, ← ctrlWord_eq, ← statusWord_eq] at h
    simp only [List.mem_cons, List.not_mem_nil, or_false, Prod.mk.injEq] at h
    obtain ⟨rfl, rfl⟩ | ⟨rfl, rfl⟩ | ⟨rfl, rfl⟩ | ⟨rfl, rfl⟩ | ⟨rfl, rfl⟩ | ⟨rfl, rfl⟩ |
      ⟨rfl, rfl⟩ | ⟨rfl, rfl⟩ | ⟨rfl, rfl⟩ := h
    · exact serve_read_reg .id s
    · exact serve_read_reg .param s
    · exact serve_read_reg .ctrl s
    · exact serve_read_reg .cmd s
    · exact serve_read_reg .status s
    · exact serve_read_reg .shiftKey s
    · exact serve_read_reg .textLen s
    · exact serve_read_reg .keyLen s
    · exact serve_read_reg .outLen s
  · simpa [hb] using serve_read_tout hp hi
  · exact ⟨raceTout s i, raceTout_old_or_new s i, by simpa [hb] using serve_read_tout hp hi⟩

end Sys2Proof.Machine
end

section
/-! SUPPORT. While a command runs, an access can reach only DONE and the model's own race counter and
response, and no command reads these (20_memory.md R70, 40_datapath.md R109). -/

namespace Sys2Proof.Machine

/-- Other values in the place of DONE, the race counter and the response. -/
def replacePortFields (d : Bool) (n : Nat) (q : Option Response) (s : State) : State :=
  { s with done := d, raceCount := n, response := q }

/-- While BUSY = 1 the only accepted write is the one to STATUS (20_memory.md R59). -/
theorem WriteEffect.eq_writeStatus {w : Word} {s t : State} (he : WriteEffect w s t)
    (hb : s.busy = true) : t = writeStatus w s := by
  cases he with
  | status => rfl
  | _ => simp_all

theorem serve_busy (r : Request) {s : State} (hb : s.busy = true) :
    ∃ d n q, serve r s = replacePortFields d n q s := by
  obtain ⟨c, -, hs⟩ | ⟨-, d, n, hs⟩ | ⟨-, t, he, hs⟩ := serve_cases r s
  · exact ⟨s.done, s.raceCount, _, hs⟩
  · exact ⟨s.done, n, _, hs⟩
  · rw [he.eq_writeStatus hb, writeStatus_eq] at hs
    exact ⟨_, s.raceCount, _, hs⟩

theorem newTout_instr {s : State} {i : Instr} (h : decode s.opl = .instr i) (k : Nat) :
    newTout s k = readTout (commandBody i s) k := by
  simp [newTout, engineStep, h, exec_eq]

theorem newTout_reserved {s : State} {why : Reserved} (h : decode s.opl = .reserved why) (k : Nat) :
    newTout s k = readTout s k := by
  simp [newTout, engineStep, h, completeReserved]

section
variable (d : Bool) (n : Nat) (q : Option Response) (s : State)

theorem rkencBody_replacePortFields :
    rkencBody (replacePortFields d n q s) = replacePortFields d n q (rkencBody s) := by
  obtain ⟨hv, h⟩ | ⟨hv, hk, h⟩ | ⟨hv, hk, h⟩ := rkencBody_cases s <;> rw [h]
  · exact rkencBody_invalid (s := replacePortFields d n q s) hv
  · exact rkencBody_noKey (s := replacePortFields d n q s) hv hk
  · exact rkencBody_keyed (s := replacePortFields d n q s) hv hk

theorem rkdecBody_replacePortFields :
    rkdecBody (replacePortFields d n q s) = replacePortFields d n q (rkdecBody s) := by
  obtain ⟨hk, h⟩ | ⟨hk, h⟩ := rkdecBody_cases s <;> rw [h]
  · exact rkdecBody_noKey (s := replacePortFields d n q s) hk
  · exact rkdecBody_keyed (s := replacePortFields d n q s) hk

/-- No command reads or writes DONE, the race counter or the response before its completion. -/
theorem commandBody_replacePortFields (i : Instr) :
    commandBody i (replacePortFields d n q s) = replacePortFields d n q (commandBody i s) := by
  cases i with
  | rkenc => exact rkencBody_replacePortFields d n q s
  | rkdec => exact rkdecBody_replacePortFields d n q s
  | _ => rfl

/-- What the running command will write does not depend on what an access can change. -/
theorem newTout_replacePortFields (k : Nat) :
    newTout (replacePortFields d n q s) k = newTout s k := by
  cases hd : decode s.opl with
  | instr i =>
    rw [newTout_instr hd, newTout_instr (s := replacePortFields d n q s) hd,
      commandBody_replacePortFields]
    rfl
  | reserved why =>
    rw [newTout_reserved hd, newTout_reserved (s := replacePortFields d n q s) hd]
    rfl

end

/-- Settles O11: an access while BUSY = 1 replaces port fields only, and NEWTOUT does not read these. -/
theorem operandsFrozenWhileBusy : Obligations.OperandsFrozenWhileBusy := by
  intro s r hb
  obtain ⟨d, n, q, hs⟩ := serve_busy r hb
  rw [hs]
  exact ⟨rfl, rfl, hb, rfl, rfl, rfl, rfl, fun _ => rfl, fun _ => rfl,
    newTout_replacePortFields d n q s, fun _ => rfl, rfl, rfl, rfl, rfl⟩

end Sys2Proof.Machine
end

section
/-! SUPPORT. A command word by its two fields (30_encoding.md R80, R83, R84): what the fields are as
numbers, what the opcode map and the decoder answer on them, and which word encodes a command. -/

namespace Sys2Proof

theorem mbzField_eq_zero_iff (w : Word) : mbzField w = 0#28 ↔ w.toNat / 16 = 0 := by
  have hw := w.isLt
  rw [← BitVec.toNat_inj, mbzField, BitVec.extractLsb'_toNat, Nat.shiftRight_eq_div_pow]
  simp only [BitVec.toNat_ofNat]
  omega

theorem opField_eq_ofNat (w : Word) : opField w = BitVec.ofNat 4 w.toNat := by
  simp [← BitVec.toNat_inj, opField]

/-! OPMAP is a table of 16 rows: its two facts are read off row by row. -/

theorem opMap_eq_some_iff {op : BitVec 4} {i : Instr} : opMap op = some i ↔ op = opCode i := by
  cases i <;> revert op <;> decide

theorem opMap_eq_none_iff {op : BitVec 4} : opMap op = none ↔ op.toNat = 0 ∨ 7 ≤ op.toNat := by
  revert op
  decide

theorem fields_encode (i : Instr) : mbzField (encode i) = 0#28 ∧ opField (encode i) = opCode i :=
  ⟨BitVec.extractLsb'_append_eq_left, BitVec.extractLsb'_append_eq_right⟩

/-- A word is its MBZ field above its OP field (30_encoding.md R80). -/
theorem mbzField_append_opField (w : Word) : mbzField w ++ opField w = w :=
  (BitVec.extractLsb'_append_extractLsb'_eq_extractLsb' (rfl : 4 = 0 + 4)).trans
    BitVec.extractLsb'_eq_self

theorem eq_encode_iff {w : Word} {i : Instr} :
    w = encode i ↔ mbzField w = 0#28 ∧ opField w = opCode i := by
  constructor
  · rintro rfl
    exact fields_encode i
  · rintro ⟨hm, ho⟩
    rw [← mbzField_append_opField w, hm, ho, encode]

theorem decode_eq_instr_iff {w : Word} {i : Instr} :
    decode w = .instr i ↔ mbzField w = 0#28 ∧ opMap (opField w) = some i := by
  unfold decode
  by_cases hm : mbzField w = 0#28
  · cases ho : opMap (opField w) <;> simp [hm]
  · simp [hm]

theorem decode_reserved_iff {w : Word} :
    (∃ why, decode w = .reserved why) ↔ mbzField w ≠ 0#28 ∨ opMap (opField w) = none := by
  unfold decode
  by_cases hm : mbzField w = 0#28
  · cases ho : opMap (opField w) <;> simp [hm]
  · simp [hm]

/-- Each command has one word, matched on all 32 bits (30_encoding.md R84). -/
theorem decode_eq_instr_iff_eq_encode {w : Word} {i : Instr} :
    decode w = .instr i ↔ w = encode i := by
  rw [decode_eq_instr_iff, opMap_eq_some_iff, eq_encode_iff]

theorem decode_encode (i : Instr) : decode (encode i) = .instr i :=
  decode_eq_instr_iff_eq_encode.2 rfl

/-- The reserved words by number: those whose OP is out of 1..6, or with a bit above OP. -/
theorem decode_reserved_iff_toNat {w : Word} :
    (∃ why, decode w = .reserved why) ↔ w.toNat = 0 ∨ 7 ≤ w.toNat := by
  rw [decode_reserved_iff, ne_eq, mbzField_eq_zero_iff, opMap_eq_none_iff, opField_eq_ofNat,
    BitVec.toNat_ofNat]
  omega

/-- Settles O1: a word is its two fields, and OPMAP is the inverse of the opcodes. -/
theorem decodeAndEncodeAgree : Obligations.DecodeAndEncodeAgree :=
  ⟨decode_encode, fun _ _ => decode_eq_instr_iff_eq_encode.1, rfl, rfl, rfl, rfl, rfl, rfl,
    fun _ => decode_reserved_iff_toNat⟩

/-- Settles O2: the decoder's two tests, with the fields read as numbers. -/
theorem reservedWordsByField : Obligations.ReservedWordsByField := by
  intro w
  rw [← opField_eq_ofNat, ne_eq, ← mbzField_eq_zero_iff]
  exact ⟨decode_reserved_iff, fun i hm ho => decode_eq_instr_iff.2 ⟨hm, ho⟩⟩

/-- Settles O3: the six words are the commands' encodings. -/
theorem commandWordsDecode : Obligations.CommandWordsDecode :=
  ⟨decode_encode .validate, decode_encode .knorm, decode_encode .shenc, decode_encode .shdec,
    decode_encode .rkenc, decode_encode .rkdec⟩

end Sys2Proof
end

section
/-! SUPPORT. The engine's step at a state: which command it runs and what it always answers
(40_datapath.md R106, R107, R108), and what a running command makes of a racing read (R110). -/

namespace Sys2Proof.Machine

/-- Settles O4: the engine's step of a decoded word is the word's meaning. -/
theorem stepRunsDecodedCommand : Obligations.StepRunsDecodedCommand := by
  intro s i hr hd
  rw [step_engine hr, engineStep, hd]

/-- The engine's step never stops, not even on a reserved word (40_datapath.md R107). -/
theorem engineStep_next (s : State) : ∃ t, engineStep s = .next t := by
  unfold engineStep
  cases decode s.opl with
  | instr i => exact ⟨_, exec_eq i s⟩
  | reserved why => exact ⟨_, rfl⟩

theorem engineStep_frame {s t : State} (h : engineStep s = .next t) : CommandFrame s t := by
  obtain ⟨i, -, rfl⟩ | ⟨why, -, rfl⟩ := engineStep_cases h
  · exact (commandBody_frame i s).trans (complete_frame _)
  · exact (raiseCmdError_frame errIllegalOp s).trans (complete_frame _)

/-- Settles O8: the engine's step answers, and whatever it answers is a completion in the frame. -/
theorem everyRunningCommandCompletes : Obligations.EveryRunningCommandCompletes := by
  intro s hr
  obtain ⟨t, ht⟩ := engineStep_next s
  exact ⟨t, by rw [step_engine hr, ht], engineStep_completed ht, engineStep_frame ht⟩

/-- A CMD write while BUSY = 0 is an acceptance, whatever the word (40_datapath.md R106). -/
theorem memWrite_cmd {s : State} (hb : s.busy = false) (w : Word) :
    memWrite HostReg.cmd.addr w s = .okay 0#32 (accept w s) := by
  rw [memWrite, target_cmd]
  exact unlessBusy_idle hb _

/-- Settles O6: MemWrite at CMD accepts, and the answer adds the response. -/
theorem cmdWriteAcceptsEveryWord : Obligations.CmdWriteAcceptsEveryWord := by
  intro s w hb
  have h : serve (writeRequest HostReg.cmd.addr w) s = answer s (.okay 0#32 (accept w s)) := by
    rw [serve_write (regAddr_aligned .cmd), memWrite_cmd hb]
  exact h

/-- A table row of 32 bits is the command word itself (log entry 14). -/
theorem tableWord_toNat (w : Word) : tableWord 32 w.toNat = w := by
  simp [tableWord]

/-- After `acceptNow` no pending move comes before the completion (log entry 8). -/
theorem acceptNow_engineReady (w : Word) (s : State) : EngineReady (acceptNow w s) := by
  refine ⟨rfl, rfl, ?_⟩
  cases hp : s.pending with
  | nil => exact .inl (by rw [acceptNow, hp, holdPending])
  | cons p rest =>
    exact .inr ⟨{ p with afterCompletion := true }, rest, by rw [acceptNow, hp, holdPending], rfl⟩

/-- Settles O7: the accepted word is latched and decodes to its command, which the step runs. -/
theorem fetchedWordRunsNext : Obligations.FetchedWordRunsNext := by
  intro s i
  rw [State.withFetchWord, tableWord_toNat]
  have hr := acceptNow_engineReady (encode i) s
  exact ⟨hr, stepRunsDecodedCommand _ i hr (decode_encode i)⟩

/-- Settles O27: `kptrAfter_eq_mod`, the induction on the positions, at every key length from 1. -/
theorem kptrCountsModuloKeyLength : Obligations.KptrCountsModuloKeyLength :=
  fun _ i hm => kptrAfter_eq_mod hm i

/-- An RKENC that its gate stops writes nothing to TOUT (40_datapath.md R110). -/
theorem newTout_gatedRkenc {s : State} (ho : s.opl = encode .rkenc) (ht : ¬ TextInAlphabet s)
    (k : Nat) : newTout s k = readTout s k := by
  have hv : allValid s.textLen s = false := by
    rwa [← allValid_iff_textInAlphabet, Bool.not_eq_true] at ht
  have hd : decode s.opl = .instr .rkenc := by rw [ho, decode_encode]
  rw [newTout_instr hd, commandBody, rkencBody_invalid hv]
  rfl

/-- Settles O43: the two values that a racing read may return are the same entry. -/
theorem gatedRkencReadsAreExact : Obligations.GatedRkencReadsAreExact := by
  intro s i hp ho ht hi
  have hrace : raceTout s i = readTout s i :=
    (raceTout_old_or_new s i).elim id (·.trans (newTout_gatedRkenc ho ht i))
  rw [serve_read_tout hp hi, hrace, ite_self]

end Sys2Proof.Machine
end

section
/-! SUPPORT. The wraps and PACK over exact integers: a guarded loop ends with the value its passes
keep, hence the loops of the source with the closed forms (40_datapath.md R97–R99, R101), WRAP on six
bits (R105), and the packed entry (R103). -/

namespace Sys2Proof.Machine

theorem wrap_range (v : Int) : 32 ≤ wrap v ∧ wrap v ≤ 95 := by
  rw [wrap_eq]
  omega

theorem wrap_emod (v : Int) : wrap v % 64 = v % 64 := by
  rw [wrap_eq]
  omega

theorem wrap_eq_self_iff {v : Int} : wrap v = v ↔ 32 ≤ v ∧ v ≤ 95 := by
  rw [wrap_eq]
  omega

/-- WRAP has period 64 (40_datapath.md R97). -/
theorem wrap_add_mul (v t : Int) : wrap (v + 64 * t) = wrap v := by
  rw [wrap_eq, wrap_eq]
  omega

/-- Settles O31: WRAP's value, and its four properties one by one. -/
theorem wrapIsTheAlphabetRepresentative : Obligations.WrapIsTheAlphabetRepresentative :=
  fun v => ⟨wrap_eq v, (wrap_range v).1, (wrap_range v).2, wrap_emod v, wrap_eq_self_iff,
    wrap_add_mul v⟩

section
variable {cond : Int → Bool} {body : Int → Int}

/-- A loop ends with `result v` when each pass keeps `result`, each pass lowers `size`, and
`result` is the identity where the guard fails. -/
theorem whileLoop_ends {result : Int → Int} (size : Int → Nat)
    (hexit : ∀ v, cond v = false → result v = v)
    (hpass : ∀ v, cond v = true → result (body v) = result v ∧ size (body v) < size v)
    (v : Int) : ∃ fuel, whileLoop cond body fuel v = some (result v) := by
  induction hn : size v using Nat.strong_induction_on generalizing v with
  | _ n ih =>
  cases hc : cond v with
  | false => exact ⟨1, by simp [whileLoop, hc, hexit v hc]⟩
  | true =>
    obtain ⟨hkeep, hless⟩ := hpass v hc
    obtain ⟨fuel, hf⟩ := ih _ (hn ▸ hless) (body v) rfl
    exact ⟨fuel + 1, by simp [whileLoop, hc, hf, hkeep]⟩

/-- More fuel does not change what a loop ends with. -/
theorem whileLoop_mono {m n : Nat} (hmn : m ≤ n) {v u : Int}
    (h : whileLoop cond body m v = some u) : whileLoop cond body n v = some u := by
  induction m generalizing n v with
  | zero => simp [whileLoop] at h
  | succ m ih =>
    obtain ⟨n, rfl⟩ := Nat.exists_eq_add_of_le' hmn
    cases hc : cond v with
    | false => simpa [whileLoop, hc] using h
    | true =>
      simp only [whileLoop, hc, if_true] at h
      simpa [whileLoop, hc] using ih (by omega) h

end

/-! One pass of a one-sided loop keeps the closed form. -/

theorem wrapDown_sub {v : Int} (h : 95 < v) : wrapDown (v - 64) = wrapDown v := by
  simp only [wrapDown_eq]
  split_ifs <;> omega

theorem wrapUp_add {v : Int} (h : v < 32) : wrapUp (v + 64) = wrapUp v := by
  simp only [wrapUp_eq]
  split_ifs <;> omega

theorem wrapDownLoop_ends (v : Int) : ∃ fuel, wrapDownLoop fuel v = some (wrapDown v) := by
  refine whileLoop_ends (fun v => (v - 95).toNat) (fun v hv => ?_) (fun v hv => ?_) v
  · exact if_neg (of_decide_eq_false hv)
  · have hgt : 95 < v := of_decide_eq_true hv
    exact ⟨wrapDown_sub hgt, show (v - 64 - 95).toNat < (v - 95).toNat by omega⟩

theorem wrapUpLoop_ends (v : Int) : ∃ fuel, wrapUpLoop fuel v = some (wrapUp v) := by
  refine whileLoop_ends (fun v => (32 - v).toNat) (fun v hv => ?_) (fun v hv => ?_) v
  · exact if_neg (of_decide_eq_false hv)
  · have hlt : v < 32 := of_decide_eq_true hv
    exact ⟨wrapUp_add hlt, show (32 - (v + 64)).toNat < (32 - v).toNat by omega⟩

/-- Settles O32: each loop's closed form, and the two sides of its guard. -/
theorem oneSidedWrapsMeetTheirLoops : Obligations.OneSidedWrapsMeetTheirLoops := by
  intro v
  exact ⟨wrapDownLoop_ends v, fun h => if_neg (not_lt.2 h), fun h => if_pos h,
    wrapUpLoop_ends v, fun h => if_neg (not_lt.2 h), fun h => if_pos h⟩

theorem wrapUp_wrapDown (v : Int) : wrapUp (wrapDown v) = wrap v := by
  simp only [wrapUp_eq, wrapDown_eq, wrap_eq]
  split_ifs <;> omega

theorem wrapDown_wrapUp (v : Int) : wrapDown (wrapUp v) = wrap v := by
  simp only [wrapUp_eq, wrapDown_eq, wrap_eq]
  split_ifs <;> omega

theorem wrapBothLoop_ends (v : Int) : ∃ fuel, wrapBothLoop fuel v = some (wrap v) := by
  obtain ⟨d, hd⟩ := wrapDownLoop_ends v
  obtain ⟨u, hu⟩ := wrapUpLoop_ends (wrapDown v)
  have hdown : wrapDownLoop (max d u) v = some (wrapDown v) := whileLoop_mono (le_max_left d u) hd
  refine ⟨max d u, ?_⟩
  rw [wrapBothLoop, hdown, ← wrapUp_wrapDown]
  exact whileLoop_mono (le_max_right d u) hu

/-- Settles O33: the composed loops end with the composed closed forms, and these are WRAP. -/
theorem wrapBothMeetsItsLoops : Obligations.WrapBothMeetsItsLoops := by
  intro v
  obtain ⟨up, hup⟩ := wrapUpLoop_ends v
  obtain ⟨down, hdown⟩ := wrapDownLoop_ends (wrapUp v)
  exact ⟨wrapBothLoop_ends v, up, down, wrapUp v, hup, by rw [hdown, wrapDown_wrapUp]⟩

/-- The bit form moves the lower half of the six-bit range up by 64 and keeps the upper half: read off
at each of the 64 values. -/
theorem toNat_wrapBits (x : BitVec 6) :
    (wrapBits x).toNat = if x.toNat < 32 then x.toNat + 64 else x.toNat := by
  revert x
  decide

/-- Settles O34: the low six bits of v are v mod 64. -/
theorem wrapNeedsOnlySixBits : Obligations.WrapNeedsOnlySixBits := by
  intro v
  rw [toNat_wrapBits, BitVec.toNat_ofInt, wrap_eq]
  split_ifs <;> omega

/-- Settles O35: the two fields of a packed result, and a number in the alphabet is its own residue. -/
theorem packHoldsSymbolAndOorBit : Obligations.PackHoldsSymbolAndOorBit := by
  intro r
  rw [pack_oor, pack_sym, oorBit_iff, oorBit_eq_false_iff]
  exact ⟨Iff.rfl, by omega, by omega⟩

end Sys2Proof.Machine
end

section
/-! SUPPORT. VALIDATE (41_validate.md R122): what its range check says of the symbols, and what the
completed command leaves. -/

namespace Sys2Proof.Machine

/-- ALLVALID over the symbols as natural numbers, with the alphabet's bounds as numerals. -/
theorem allValid_iff_readTin (n : Nat) (s : State) :
    allValid n s = true ↔ ∀ i < n, 32 ≤ (readTin s i).toNat ∧ (readTin s i).toNat ≤ 95 := by
  have bounds (i : Nat) : Config.LB ≤ textCode s i ∧ textCode s i ≤ Config.UB ↔
      32 ≤ (readTin s i).toNat ∧ (readTin s i).toNat ≤ 95 := by
    simp only [textCode, Config.LB, Config.UB]
    omega
  simp only [allValid_iff, bounds]

/-- Settles O12: VALIDATE's body writes ALLVALID to VALID and nothing else, and the completion is in
the command frame. -/
theorem validateChecksTheText : Obligations.ValidateChecksTheText := by
  refine ⟨decode_encode .validate, fun s => ⟨_, exec_eq .validate s, ?_⟩⟩
  have hframe := (commandBody_frame .validate s).trans (complete_frame _)
  have hvalid : (complete (commandBody .validate s)).valid = allValid s.textLen s := rfl
  rw [hvalid]
  exact ⟨allValid_iff_readTin s.textLen s, rfl, rfl, rfl, rfl, fun _ => rfl, hframe,
    complete_completed _⟩

end Sys2Proof.Machine
end

section
/-! SUPPORT. The key that KNORM leaves (42_shift.md R125–R127): its closed form is a 32-bit key, and the
loop ends with it. -/

namespace Sys2Proof.Machine

/-- KNORM's key is the one it was given or lies in 0..63, so it fits the register. -/
theorem toInt_ofInt_normalizeKey (s : State) :
    (BitVec.ofInt 32 (normalizeKey (shiftKeyInt s))).toInt = normalizeKey (shiftKeyInt s) := by
  have hk := shiftKeyInt_range s
  have hrange : -2147483648 ≤ normalizeKey (shiftKeyInt s) ∧
      normalizeKey (shiftKeyInt s) ≤ 2147483647 := by
    rw [normalizeKey_eq]
    split_ifs <;> omega
  rw [BitVec.toInt_ofInt]
  exact Int.bmod_eq_of_le (by omega) (by omega)

theorem shiftKeyInt_knorm (s : State) :
    shiftKeyInt (complete (commandBody .knorm s)) = normalizeKey (shiftKeyInt s) :=
  toInt_ofInt_normalizeKey s

theorem normalizeKey_above {k : Int} (h : 63 < k) : normalizeKey k = k % 64 := if_pos h

theorem normalizeKey_upTo {k : Int} (h : k ≤ 63) : normalizeKey k = k := if_neg (not_lt.2 h)

theorem normalizeKey_le (k : Int) : normalizeKey k ≤ 63 := by
  rw [normalizeKey_eq]
  split_ifs <;> omega

/-- One pass of KNORM's loop keeps the closed form. -/
theorem normalizeKey_sub {k : Int} (h : 63 < k) : normalizeKey (k - 64) = normalizeKey k := by
  simp only [normalizeKey_eq]
  split_ifs <;> omega

theorem normalizeKeyLoop_ends (k : Int) :
    ∃ fuel, normalizeKeyLoop fuel k = some (normalizeKey k) := by
  refine whileLoop_ends (fun k => (k - 63).toNat) (fun k hk => ?_) (fun k hk => ?_) k
  · exact if_neg (of_decide_eq_false hk)
  · have hgt : 63 < k := of_decide_eq_true hk
    exact ⟨normalizeKey_sub hgt, show (k - 64 - 63).toNat < (k - 63).toNat by omega⟩

/-- The low six bits of a positive key are the key modulo 64 (42_shift.md R126). -/
theorem toInt_lowSixBits {w : Word} (h : 0 ≤ w.toInt) :
    ((w.extractLsb' 0 6).zeroExtend 32).toInt = w.toInt % 64 := by
  have hw : w.toInt = w.toNat := BitVec.toInt_eq_toNat_of_lt (BitVec.toInt_pos_iff.1 h)
  have hlow : ((w.extractLsb' 0 6).zeroExtend 32).toNat = w.toNat % 64 := by
    rw [BitVec.zeroExtend, BitVec.toNat_setWidth, BitVec.extractLsb'_toNat, Nat.shiftRight_zero]
    omega
  rw [BitVec.toInt_eq_toNat_of_lt (by omega), hlow, hw]
  rfl

/-- Settles O13: the two sides of the closed form, and the command frame. -/
theorem knormReducesFromAbove : Obligations.KnormReducesFromAbove := by
  intro s
  have hkey := shiftKeyInt_knorm s
  refine ⟨_, exec_eq .knorm s, fun h => ?_, fun h => ?_, rfl, rfl, rfl, rfl, fun _ => rfl,
    (commandBody_frame .knorm s).trans (complete_frame _), complete_completed _⟩
  · have hmod := hkey.trans (normalizeKey_above h)
    exact ⟨hmod, BitVec.eq_of_toInt_eq (hmod.trans (toInt_lowSixBits (by omega)).symm)⟩
  · exact BitVec.eq_of_toInt_eq (hkey.trans (normalizeKey_upTo h))

/-- Settles O14: each pass of the loop keeps the closed form, which the command writes. -/
theorem knormMeetsItsLoop : Obligations.KnormMeetsItsLoop := by
  intro s
  obtain ⟨fuel, hfuel⟩ := normalizeKeyLoop_ends (shiftKeyInt s)
  exact ⟨_, fuel, exec_eq .knorm s, hfuel.trans (congrArg some (shiftKeyInt_knorm s).symm)⟩

/-- Settles O15: a key that KNORM has written is at most 63, and such a key is kept. -/
theorem knormIsIdempotent : Obligations.KnormIsIdempotent := by
  intro s
  have hkey := shiftKeyInt_knorm s
  refine ⟨_, _, exec_eq .knorm s, exec_eq .knorm _, BitVec.eq_of_toInt_eq ?_, fun h => ?_⟩
  · refine (shiftKeyInt_knorm _).trans (normalizeKey_upTo ?_)
    exact hkey.trans_le (normalizeKey_le _)
  · rw [← shiftKeyInt] at h
    exact (hkey.trans (normalizeKey_upTo (by omega))).trans_lt h

end Sys2Proof.Machine
end

section
/-! SUPPORT. SHENC and SHDEC over the text (42_shift.md R129–R134): the results in plain arithmetic,
their packed entries, the range in each mode, and what KNORM does to them. -/

namespace Sys2Proof.Machine

theorem shencResult_eq (s : State) (i : Nat) :
    shencResult s i = if s.wrapSym then wrap (textCode s i + shiftKeyInt s)
      else wrapDown (textCode s i + shiftKeyInt s) := by
  rw [shencResult, shencMode]
  cases s.wrapSym <;> rfl

theorem shdecResult_eq (s : State) (i : Nat) :
    shdecResult s i = if s.wrapSym then wrap (textCode s i - shiftKeyInt s)
      else wrapUp (textCode s i - shiftKeyInt s) := by
  rw [shdecResult, shdecMode]
  cases s.wrapSym <;> rfl

/-- XFORM sets OOR exactly when an entry that it writes carries its OOR bit (10_state.md R33). -/
theorem oor_xform_iff (n : Nat) (f : Nat → Int) (s : State) :
    (xform n f s).oor = true ↔ ∃ i < n, (readTout (xform n f s) i).getLsbD 8 = true := by
  rw [xform_oor, anyOor_iff]
  refine exists_congr fun i => and_congr_right fun hi => ?_
  rw [readTout_xform_below f s hi, pack_oor]
  exact (oorBit_iff _).symm

/-- XFORM leaves OOR clear when every result is in the alphabet. -/
theorem oor_xform_eq_false {n : Nat} {f : Nat → Int} (s : State)
    (h : ∀ i < n, 32 ≤ f i ∧ f i ≤ 95) : (xform n f s).oor = false := by
  rw [xform_oor, Bool.eq_false_iff, Ne, anyOor_iff]
  rintro ⟨i, hi, hout⟩
  have := h i hi
  simp only [Config.LB, Config.UB] at hout
  omega

theorem readTout_shenc {s : State} {i : Nat} (hi : i < s.textLen) :
    readTout (complete (commandBody .shenc s)) i = pack (shencResult s i) :=
  readTout_xform_below _ s hi

theorem readTout_shdec {s : State} {i : Nat} (hi : i < s.textLen) :
    readTout (complete (commandBody .shdec s)) i = pack (shdecResult s i) :=
  readTout_xform_below _ s hi

theorem toNat_pack_inAlphabet {r : Int} (h : 32 ≤ r ∧ r ≤ 95) : ((pack r).toNat : Int) = r := by
  rw [pack_inAlphabet h, BitVec.toNat_ofInt]
  omega

/-- Settles O16: XFORM's entries below and from TEXT_LEN on, its OOR, and the command frame. -/
theorem shencShiftsTheText : Obligations.ShencShiftsTheText := by
  refine ⟨decode_encode .shenc, fun s => ⟨_, exec_eq .shenc s, fun i hi => ?_,
    fun i hi => readTout_xform_beyond _ s hi, rfl, oor_xform_iff _ _ s, rfl, rfl, rfl,
    (commandBody_frame .shenc s).trans (complete_frame _), complete_completed _⟩⟩
  exact (readTout_shenc hi).trans (congrArg pack (shencResult_eq s i))

/-- Settles O17: as for SHENC, with SHDEC's results. -/
theorem shdecUnshiftsTheText : Obligations.ShdecUnshiftsTheText := by
  refine ⟨decode_encode .shdec, fun s => ⟨_, exec_eq .shdec s, fun i hi => ?_,
    fun i hi => readTout_xform_beyond _ s hi, rfl, oor_xform_iff _ _ s, rfl, rfl, rfl,
    (commandBody_frame .shdec s).trans (complete_frame _), complete_completed _⟩⟩
  exact (readTout_shdec hi).trans (congrArg pack (shdecResult_eq s i))

/-! Where each wrap leaves the alphabet (40_datapath.md R97–R99). -/

theorem wrapDown_inAlphabet {v : Int} (h : 32 ≤ v) : 32 ≤ wrapDown v ∧ wrapDown v ≤ 95 := by
  rw [wrapDown_eq]
  split_ifs <;> omega

theorem oorBit_wrapDown (v : Int) : oorBit (wrapDown v) = true ↔ v < 32 := by
  rw [oorBit_iff, wrapDown_eq]
  split_ifs <;> omega

theorem oorBit_wrapUp (v : Int) : oorBit (wrapUp v) = true ↔ 95 < v := by
  rw [oorBit_iff, wrapUp_eq]
  split_ifs <;> omega

theorem oorBit_wrap (v : Int) : oorBit (wrap v) = false :=
  (oorBit_eq_false_iff _).2 (wrap_range v)

section
variable {s : State}

theorem shencResult_symmetric (hw : s.wrapSym = true) (i : Nat) :
    shencResult s i = wrap (textCode s i + shiftKeyInt s) := by
  rw [shencResult_eq, if_pos hw]

theorem shencResult_faithful (hw : s.wrapSym = false) (i : Nat) :
    shencResult s i = wrapDown (textCode s i + shiftKeyInt s) := by
  rw [shencResult_eq, if_neg (Bool.eq_false_iff.1 hw)]

theorem shdecResult_symmetric (hw : s.wrapSym = true) (i : Nat) :
    shdecResult s i = wrap (textCode s i - shiftKeyInt s) := by
  rw [shdecResult_eq, if_pos hw]

theorem shdecResult_faithful (hw : s.wrapSym = false) (i : Nat) :
    shdecResult s i = wrapUp (textCode s i - shiftKeyInt s) := by
  rw [shdecResult_eq, if_neg (Bool.eq_false_iff.1 hw)]

end

/-- In SYMMETRIC mode, where every result is a WRAP, no entry and no flag reports OOR. -/
theorem xform_wrap_inRange (n : Nat) {f v : Nat → Int} (hf : ∀ i, f i = wrap (v i)) (s : State) :
    (xform n f s).oor = false ∧ ∀ i < n, (readTout (xform n f s) i).getLsbD 8 = false := by
  refine ⟨oor_xform_eq_false s fun i _ => hf i ▸ wrap_range _, fun i hi => ?_⟩
  rw [readTout_xform_below f s hi, pack_oor, hf, oorBit_wrap]

/-- Settles O18: the range of WRAP_DOWN in FAITHFUL mode and of WRAP in SYMMETRIC mode. -/
theorem shencOutOfRangeOnlyBelow : Obligations.ShencOutOfRangeOnlyBelow := by
  intro s
  refine ⟨_, exec_eq .shenc s, fun hw i hi => ?_, fun hw htext hk => ?_, fun hw => ?_⟩
  · rw [readTout_shenc hi, shencResult_faithful hw, pack_oor, Bool.eq_false_iff, Ne, oorBit_wrapDown]
    refine ⟨fun habove => ?_, Iff.rfl, by omega⟩
    have hrange := wrapDown_inAlphabet (v := textCode s i + shiftKeyInt s) (by omega)
    have hcode := toNat_pack_inAlphabet hrange
    omega
  · refine oor_xform_eq_false s fun i hi => ?_
    have hc : 32 ≤ textCode s i := (htext i hi).1
    rw [shencResult_faithful hw]
    exact wrapDown_inAlphabet (by omega)
  · exact xform_wrap_inRange _ (shencResult_symmetric hw) s

/-- Settles O19: the range of WRAP_UP in FAITHFUL mode and of WRAP in SYMMETRIC mode. -/
theorem shdecOutOfRangeOnlyAbove : Obligations.ShdecOutOfRangeOnlyAbove := by
  intro s
  refine ⟨_, exec_eq .shdec s, fun hw i hi => ?_, fun hw => ?_⟩
  · rw [readTout_shdec hi, shdecResult_faithful hw, pack_oor, oorBit_wrapUp]
    exact ⟨Iff.rfl, by omega⟩
  · exact xform_wrap_inRange _ (shdecResult_symmetric hw) s

/-! KNORM takes a multiple of 64 off a key above 63, and there each wrap is WRAP, which has period 64
(42_shift.md R131). -/

theorem wrap_add_normalizeKey (c k : Int) : wrap (c + normalizeKey k) = wrap (c + k) := by
  rw [normalizeKey_eq, wrap_eq, wrap_eq]
  split_ifs <;> omega

theorem wrap_sub_normalizeKey (c k : Int) : wrap (c - normalizeKey k) = wrap (c - k) := by
  rw [normalizeKey_eq, wrap_eq, wrap_eq]
  split_ifs <;> omega

theorem wrapDown_add_normalizeKey {c : Int} (hc : 32 ≤ c) (k : Int) :
    wrapDown (c + normalizeKey k) = wrapDown (c + k) := by
  simp only [normalizeKey_eq, wrapDown_eq]
  split_ifs <;> omega

theorem wrapUp_sub_normalizeKey {c : Int} (hc : c ≤ 95) (k : Int) :
    wrapUp (c - normalizeKey k) = wrapUp (c - k) := by
  simp only [normalizeKey_eq, wrapUp_eq]
  split_ifs <;> omega

theorem shencResult_knorm {s : State} {i : Nat} (hc : 32 ≤ textCode s i) :
    shencResult (complete (commandBody .knorm s)) i = shencResult s i := by
  rw [shencResult_eq, shencResult_eq, shiftKeyInt_knorm, ← wrap_add_normalizeKey _ (shiftKeyInt s),
    ← wrapDown_add_normalizeKey hc (shiftKeyInt s)]
  rfl

theorem shdecResult_knorm {s : State} {i : Nat} (hc : textCode s i ≤ 95) :
    shdecResult (complete (commandBody .knorm s)) i = shdecResult s i := by
  rw [shdecResult_eq, shdecResult_eq, shiftKeyInt_knorm, ← wrap_sub_normalizeKey _ (shiftKeyInt s),
    ← wrapUp_sub_normalizeKey hc (shiftKeyInt s)]
  rfl

/-- Settles O20: both commands compute the same results at every position, and XFORM depends on
nothing else that KNORM writes. -/
theorem normalizingIsUnobservableOnValidText : Obligations.NormalizingIsUnobservableOnValidText := by
  intro s htext _
  have henc : commandBody .shenc (complete (commandBody .knorm s)) =
      xform s.textLen (shencResult s) (complete (commandBody .knorm s)) :=
    xform_congr (fun i hi => shencResult_knorm (htext i hi).1) _
  have hdec : commandBody .shdec (complete (commandBody .knorm s)) =
      xform s.textLen (shdecResult s) (complete (commandBody .knorm s)) :=
    xform_congr (fun i hi => shdecResult_knorm (htext i hi).2) _
  refine ⟨_, _, _, _, _, exec_eq .knorm s, exec_eq .shenc s, exec_eq .shenc _, exec_eq .shdec s,
    exec_eq .shdec _, ?_⟩
  rw [henc, hdec]
  exact ⟨fun _ => rfl, rfl, rfl, fun _ => rfl, rfl, rfl⟩

end Sys2Proof.Machine
end

section
/-! SUPPORT. COPYBACK on the host port (30_encoding.md R88): host variables, one statement, one symbol
move, and the whole program, which leaves the result of the last command as the next one's text. -/

namespace Sys2Proof.Machine

theorem hostVar_setHostVar_same (vars : List (String × Word)) (x : String) (w : Word) :
    hostVar (setHostVar vars x w) x = w := by
  induction vars with
  | nil => simp [setHostVar, hostVar]
  | cons c rest ih =>
    obtain ⟨y, u⟩ := c
    by_cases hxy : x = y
    · simp [setHostVar, hostVar, hxy]
    · simp [setHostVar, hostVar, hxy, ih]

theorem hostVar_setHostVar_other (vars : List (String × Word)) {x z : String} (w : Word)
    (hz : z ≠ x) : hostVar (setHostVar vars x w) z = hostVar vars z := by
  induction vars with
  | nil => simp [setHostVar, hostVar, hz]
  | cons c rest ih =>
    obtain ⟨y, u⟩ := c
    by_cases hxy : x = y
    · subst hxy
      simp [setHostVar, hostVar, hz]
    · simp [setHostVar, hostVar, hxy, ih]

theorem runStraight_append (p q : List HostStmt) (h : HostThread) (s : State) :
    runStraight (p ++ q) h s = runStraight q (runStraight p h s).1 (runStraight p h s).2 := by
  induction p generalizing h s with
  | nil => rfl
  | cons st rest ih => exact ih _ _

theorem runStraight_cons (st : HostStmt) (rest : List HostStmt) (h : HostThread) (s : State) :
    runStraight (st :: rest) h s =
      runStraight rest (hostStmt [] st h s).1 (hostStmt [] st h s).2 := rfl

section
variable {prog : List HostStmt} {a : Addr} {s t : State} (ha : a.extractLsb' 0 2 = 0#2)
include ha

/-- A read that MemRead accepts sets its variable to the word. -/
theorem hostStmt_rd {d : Word} (hr : memRead a s = .okay d t) (x : String) (h : HostThread) :
    hostStmt prog (.rd a x) h s =
      ({ h with pc := h.pc + 1, vars := setHostVar h.vars x d }, answer s (.okay d t)) := by
  simp [hostStmt, serve_read ha, hr, answer, lastResponse]

/-- A write that MemWrite accepts answers OKAY, which the program expects. -/
theorem hostStmt_wr {v : HostValue} {w : Word} {h : HostThread} (hv : hostValue h.vars v = w)
    (hw : memWrite a w s = .okay 0#32 t) :
    hostStmt prog (.wr a v .okay) h s =
      ({ h with pc := h.pc + 1 }, answer s (.okay 0#32 t)) := by
  simp [hostStmt, hv, serve_write ha, hw, answer, lastResponse]

end

/-- The symbol of a TOUT entry, as COPYBACK writes it: bits [7:0] of the word that was read. -/
def toutSymbol (s : State) (i : Nat) : Sym := (readTout s i).extractLsb' 0 8

/-- `s` with TIN and the latest response replaced, which is all that a symbol move can write. -/
def replaceTin (m : Memory 8) (q : Option Response) (s : State) : State :=
  { s with tin := m, response := q }

/-- `s` with the last result as its text: TIN replaced and TEXT_LEN set to OUT_LEN
(30_encoding.md R88). -/
def takeBack (m : Memory 8) (q : Option Response) (s : State) : State :=
  { replaceTin m q s with textLen := s.outLen }

/-- The low byte of the word that a TOUT read returns is the entry's symbol. -/
theorem lowByte_toutWord (e : OutEntry) :
    (e.zeroExtend 32).extractLsb' 0 8 = e.extractLsb' 0 8 := by
  apply BitVec.eq_of_toNat_eq
  simp only [BitVec.zeroExtend, BitVec.extractLsb'_toNat, BitVec.toNat_setWidth, Nat.shiftRight_zero]
  omega

/-- A symbol write accepts a symbol extended to a word, and stores the symbol. -/
theorem lowByte_symbolWord (x : Sym) :
    (x.zeroExtend 32).toNat < 256 ∧ (x.zeroExtend 32).extractLsb' 0 8 = x := by
  have hx := x.isLt
  have hnat : (x.zeroExtend 32).toNat = x.toNat := by
    rw [BitVec.zeroExtend, BitVec.toNat_setWidth]
    omega
  have hlt : (x.zeroExtend 32).toNat < 256 := by omega
  exact ⟨hlt, BitVec.eq_of_toNat_eq ((symbol_toNat hlt).trans hnat)⟩

section
variable {s : State} (hp : s.params.wellFormed = true) (hb : s.busy = false) {i : Nat}
  (hi : i < s.params.textDepth)
include hp hb hi

/-- A TOUT read while BUSY = 0 is exact and changes nothing (40_datapath.md R110). -/
theorem memRead_tout_idle :
    memRead (toutAddr i) s = .okay ((readTout s i).zeroExtend 32) s := by
  rw [memRead, target_toutAddr hp hi]
  simp [readToutPort, hb]

theorem memWrite_tin_symbol (x : Sym) :
    memWrite (tinAddr i) (x.zeroExtend 32) s = .okay 0#32 (writeTin i x s) := by
  obtain ⟨hlt, hsym⟩ := lowByte_symbolWord x
  simp only [memWrite, target_tinAddr hp hi]
  rw [unlessBusy_idle hb, symbolWrite_okay hlt, hsym]

/-- One symbol move of COPYBACK writes the symbol of TOUT[i] to TIN[i]. -/
theorem runStraight_copyMove (h : HostThread) :
    runStraight [.rd (toutAddr i) "w", .wr (tinAddr i) (.varByte "w") .okay] h s =
      ({ h with pc := h.pc + 2, vars := setHostVar h.vars "w" ((readTout s i).zeroExtend 32) },
        replaceTin (Memory.write s.tin i (toutSymbol s i))
          (some { resp := .okay, rdata := 0#32 }) s) := by
  have hd := depths_of_wellFormed hp
  have htout : (toutAddr i).extractLsb' 0 2 = 0#2 := toutAddr_aligned (by omega)
  have htin : (tinAddr i).extractLsb' 0 2 = 0#2 := tinAddr_aligned (by omega)
  have hvalue : hostValue (setHostVar h.vars "w" ((readTout s i).zeroExtend 32)) (.varByte "w") =
      (toutSymbol s i).zeroExtend 32 := by
    rw [hostValue, hostVar_setHostVar_same, lowByte_toutWord, toutSymbol]
  have hwrite := memWrite_tin_symbol (s := answer s (.okay ((readTout s i).zeroExtend 32) s))
    hp hb hi (toutSymbol s i)
  rw [runStraight_cons, hostStmt_rd htout (memRead_tout_idle hp hb hi), runStraight_cons,
    hostStmt_wr htin (h := { h with pc := _, vars := _ }) hvalue hwrite]
  rfl

end

/-- The symbol moves write TIN from TOUT below n and nothing else but the response; the variable that
holds the length keeps its value. -/
theorem runStraight_copyMoves {s : State} (hp : s.params.wellFormed = true) (hb : s.busy = false)
    (h : HostThread) {n : Nat} (hn : n ≤ s.params.textDepth) :
    ∃ k m q, runStraight (copyMoves n) h s = (k, replaceTin m q s) ∧
      k.asExpected = h.asExpected ∧ hostVar k.vars "n" = hostVar h.vars "n" ∧
      ∀ i < n, Memory.lookup m i = some (toutSymbol s i) := by
  induction n with
  | zero => exact ⟨h, s.tin, s.response, rfl, rfl, rfl, fun i hi => absurd hi (by omega)⟩
  | succ n ih =>
    obtain ⟨k, m, q, hrun, hexp, hvar, hcopy⟩ := ih (by omega)
    have hmove := runStraight_copyMove (s := replaceTin m q s) hp hb hn k
    have hrun' := runStraight_append (copyMoves n)
      [.rd (toutAddr n) "w", .wr (tinAddr n) (.varByte "w") .okay] h s
    rw [hrun, hmove] at hrun'
    refine ⟨_, Memory.write m n (toutSymbol s n), _, hrun', hexp,
      (hostVar_setHostVar_other _ _ (by decide)).trans hvar, fun i hi => ?_⟩
    rcases eq_or_ne i n with rfl | hne
    · exact lookup_write_same _ _ _
    · exact (lookup_write_other _ _ hne).trans (hcopy i (by omega))

/-- COPYBACK with BUSY = 0 makes the last result the text, entry by entry, and its length TEXT_LEN;
every access of it is OKAY (30_encoding.md R88). -/
theorem runStraight_copyBack {s : State} (hp : s.params.wellFormed = true) (hb : s.busy = false)
    (hn : s.outLen ≤ s.params.textDepth) :
    ∃ h m q, runStraight (copyBackStmts s.outLen) HostThread.start s = (h, takeBack m q s) ∧
      h.asExpected = true ∧ ∀ i < s.outLen, Memory.lookup m i = some (toutSymbol s i) := by
  have hd := depths_of_wellFormed hp
  obtain ⟨k, m, q, hrun, hexp, hvar, hcopy⟩ :=
    runStraight_copyMoves (s := answer s (.okay (regWord s .outLen) s)) hp hb
      { pc := 1, vars := setHostVar [] "n" (regWord s .outLen), asExpected := true } hn
  have hlen : min (hostValue k.vars (.var "n")).toNat s.params.textDepth = s.outLen := by
    rw [hostValue, hvar, hostVar_setHostVar_same, regWord, BitVec.toNat_ofNat]
    omega
  have hwrite := memWrite_textLen (s := replaceTin m q s) hb (hostValue k.vars (.var "n"))
  have hwhole : runStraight (copyBackStmts s.outLen) HostThread.start s =
      runStraight [.wr HostReg.textLen.addr (.var "n") .okay] k (replaceTin m q s) := by
    rw [copyBackStmts, List.cons_append, runStraight_cons,
      hostStmt_rd (regAddr_aligned .outLen) (memRead_reg .outLen s), runStraight_append]
    exact congrArg (fun r => runStraight _ r.1 r.2) hrun
  rw [runStraight_cons, hostStmt_wr (regAddr_aligned .textLen) rfl hwrite] at hwhole
  refine ⟨{ k with pc := k.pc + 1 }, m, some { resp := .okay, rdata := 0#32 },
    hwhole.trans ?_, hexp, hcopy⟩
  rw [takeBack, ← hlen]
  rfl

end Sys2Proof.Machine
end

section
/-! SUPPORT. The shift round trip (42_shift.md R135, R136): over exact integers, over the symbols that
the buffers hold, and through COPYBACK. -/

namespace Sys2Proof.Machine

theorem wrapUp_sub_wrapDown {c : Int} (h : 32 ≤ c ∧ c ≤ 95) (k : Int) :
    wrapUp (wrapDown (c + k) - k) = c := by
  simp only [wrapUp_eq, wrapDown_eq]
  split_ifs <;> omega

theorem wrap_sub_wrap {c : Int} (h : 32 ≤ c ∧ c ≤ 95) (k : Int) :
    wrap (wrap (c + k) - k) = c := by
  simp only [wrap_eq]
  omega

/-- Settles O36: each mode pair's wraps undo one another on the alphabet. -/
theorem shiftRoundTripOverIntegers : Obligations.ShiftRoundTripOverIntegers :=
  fun _ k hlow hhigh => ⟨wrapUp_sub_wrapDown ⟨hlow, hhigh⟩ k, wrap_sub_wrap ⟨hlow, hhigh⟩ k⟩

/-- The copied symbol is the result modulo 256: it is the result itself exactly when c + k ≥ 0, and
below that the decryption ends above the alphabet (42_shift.md R136). -/
theorem wrapUp_sub_wrapDown_symbol_iff {c : Int} (h : 32 ≤ c ∧ c ≤ 95) (k : Int) :
    wrapUp (wrapDown (c + k) % 256 - k) = c ↔ 0 ≤ c + k := by
  by_cases hneg : c + k < 0
  · have hout : 95 < (c + k) % 256 - k := by omega
    rw [wrapDown_eq, if_neg (by omega), wrapUp_eq, if_neg (by omega)]
    omega
  · have hsym : wrapDown (c + k) % 256 = wrapDown (c + k) := by
      rw [wrapDown_eq]
      split_ifs <;> omega
    rw [hsym, wrapUp_sub_wrapDown h]
    simpa using hneg

theorem wrap_sub_wrap_symbol {c : Int} (h : 32 ≤ c ∧ c ≤ 95) (k : Int) :
    wrap (wrap (c + k) % 256 - k) = c := by
  have hrange := wrap_range (c + k)
  rw [Int.emod_eq_of_lt (by omega) (by omega), wrap_sub_wrap h]

/-- A packed entry is an in-alphabet symbol only when its OOR bit is clear, hence only as the result
that the symbol stands for. -/
theorem pack_eq_symbol_iff {x : Sym} (hx : 32 ≤ x.toNat ∧ x.toNat ≤ 95) (r : Int) :
    pack r = x.zeroExtend 9 ↔ r = x.toNat := by
  constructor
  · intro h
    have hbit := congrArg (·.getLsbD 8) h
    have hrange : 32 ≤ r ∧ r ≤ 95 := by
      rw [← oorBit_eq_false_iff, ← pack_oor]
      simpa using hbit
    have hcode := toNat_pack_inAlphabet hrange
    rw [h, BitVec.zeroExtend, BitVec.toNat_setWidth] at hcode
    omega
  · rintro rfl
    rw [pack_inAlphabet (by omega), BitVec.ofInt_natCast]
    apply BitVec.eq_of_toNat_eq
    simp

section
variable {s u : State} {i : Nat}

/-- What SHDEC makes of a position whose text symbol is SHENC's packed result, with the same key and
mode (42_shift.md R136). -/
theorem shdecResult_eq_textCode_iff (hc : 32 ≤ textCode s i ∧ textCode s i ≤ 95)
    (hw : u.wrapSym = s.wrapSym) (hk : u.shiftKey = s.shiftKey)
    (hu : textCode u i = shencResult s i % 256) :
    shdecResult u i = textCode s i ↔ s.wrapSym = true ∨ 0 ≤ textCode s i + shiftKeyInt s := by
  have hkey : shiftKeyInt u = shiftKeyInt s := congrArg BitVec.toInt hk
  cases hmode : s.wrapSym with
  | true =>
    rw [shdecResult_symmetric (hw.trans hmode), hu, hkey, shencResult_symmetric hmode,
      wrap_sub_wrap_symbol hc]
    simp
  | false =>
    rw [shdecResult_faithful (hw.trans hmode), hu, hkey, shencResult_faithful hmode,
      wrapUp_sub_wrapDown_symbol_iff hc]
    simp

end

/-- A copied packed result reads back as the result modulo 256. -/
theorem textCode_of_copied {t u : State} {i : Nat} {r : Int} (ht : readTout t i = pack r)
    (hu : Memory.lookup u.tin i = some (toutSymbol t i)) : textCode u i = r % 256 := by
  have hread : readTin u i = toutSymbol t i := by rw [readTin, hu, Option.getD_some]
  rw [textCode, hread, toutSymbol, ht, pack_sym]
  omega

/-- Settles O37: COPYBACK hands SHENC's packed results to SHDEC as its text, so both sides are said
position by position. -/
theorem shiftRoundTripThroughTheBuffers : Obligations.ShiftRoundTripThroughTheBuffers := by
  intro s hinv _ htext
  obtain ⟨h, m, q, hcopy, hexp, hsym⟩ := runStraight_copyBack
    (s := complete (commandBody .shenc (accept (encode .shenc) s))) hinv.params rfl hinv.textLen
  refine ⟨_, h, _, _, exec_eq .shenc _, hcopy, hexp, exec_eq .shdec _, rfl, ?_⟩
  simp only [← forall_or_left]
  refine forall₂_congr fun i hi => ?_
  have hc : 32 ≤ textCode s i ∧ textCode s i ≤ 95 := htext i hi
  have hx : 32 ≤ (readTin s i).toNat ∧ (readTin s i).toNat ≤ 95 := by
    rw [textCode] at hc
    omega
  rw [readTout_shdec (by exact hi), pack_eq_symbol_iff hx]
  exact shdecResult_eq_textCode_iff hc rfl rfl (textCode_of_copied (readTout_shenc hi) (hsym i hi))

end Sys2Proof.Machine
end

section
/-! SUPPORT. RKENC and RKDEC over the text (43_repeating_key.md R137–R145): the body on each path of the
checks, the range of WRAP's packed entries, and the round trip through COPYBACK. -/

namespace Sys2Proof.Machine

/-- A command whose body at `s` is known completes with it, inside the command frame. -/
theorem exec_of_commandBody {i : Instr} {s b : State} (h : commandBody i s = b) :
    exec i s = .next (complete b) ∧ CommandFrame s (complete b) := by
  subst h
  exact ⟨exec_eq i s, (commandBody_frame i s).trans (complete_frame _)⟩

/-! The bodies by the text and the key (60_exceptions.md R157). -/

theorem commandBody_rkenc_invalid {s : State} (ht : ¬ TextInAlphabet s) :
    commandBody .rkenc s = { s with valid := false, outLen := 0 } := by
  rw [← allValid_iff_textInAlphabet, Bool.not_eq_true] at ht
  exact rkencBody_invalid ht

theorem commandBody_rkenc_noKey {s : State} (ht : TextInAlphabet s) (hk : s.keyLen = 0) :
    commandBody .rkenc s = keyEmpty { s with valid := true } :=
  rkencBody_noKey ((allValid_iff_textInAlphabet s).2 ht) hk

theorem commandBody_rkenc_keyed {s : State} (ht : TextInAlphabet s) (hk : 1 ≤ s.keyLen) :
    commandBody .rkenc s = xformKeyed s.textLen (rkencResult s) { s with valid := true } :=
  rkencBody_keyed ((allValid_iff_textInAlphabet s).2 ht) (Nat.one_le_iff_ne_zero.1 hk)

theorem commandBody_rkdec_noKey {s : State} (hk : s.keyLen = 0) :
    commandBody .rkdec s = keyEmpty s :=
  rkdecBody_noKey hk

theorem commandBody_rkdec_keyed {s : State} (hk : 1 ≤ s.keyLen) :
    commandBody .rkdec s = xformKeyed s.textLen (rkdecResult s) s :=
  rkdecBody_keyed (Nat.one_le_iff_ne_zero.1 hk)

/-! The results: both commands use WRAP, whatever CTRL.WRAPSYM is. -/

theorem rkencResult_eq (s : State) (i : Nat) :
    rkencResult s i = wrap (textCode s i + ksym s i) := rfl

theorem rkdecResult_eq (s : State) (i : Nat) :
    rkdecResult s i = wrap (textCode s i - ksym s i) := rfl

theorem anyOor_wrap (n : Nat) {f v : Nat → Int} (hf : ∀ i, f i = wrap (v i)) :
    anyOor n f = false := by
  simp [anyOor, hf, oorBit_wrap]

/-- A packed WRAP is an alphabet symbol without an OOR bit (40_datapath.md R97, R103). -/
theorem pack_wrap_inAlphabet (v : Int) :
    (pack (wrap v)).getLsbD 8 = false ∧ 32 ≤ ((pack (wrap v)).extractLsb' 0 8).toNat ∧
      ((pack (wrap v)).extractLsb' 0 8).toNat ≤ 95 := by
  have hrange := wrap_range v
  rw [pack_oor, pack_sym]
  exact ⟨oorBit_wrap v, by omega, by omega⟩

/-- Settles O21: the keyed transform's entries below and from TEXT_LEN on; a WRAP never sets OOR. -/
theorem rkencAddsTheCycledKey : Obligations.RkencAddsTheCycledKey := by
  intro s ht hk
  obtain ⟨hexec, hframe⟩ := exec_of_commandBody (commandBody_rkenc_keyed ht hk)
  exact ⟨_, hexec, fun _ hi => readTout_xformKeyed_below _ _ hi,
    fun _ hi => readTout_xformKeyed_beyond _ _ hi, rfl, rfl, anyOor_wrap _ (rkencResult_eq s), rfl,
    rfl, hframe, complete_completed _⟩

/-- Settles O22: the gate is the first check, so the key plays no part. -/
theorem rkencGateGivesEmptyResult : Obligations.RkencGateGivesEmptyResult := by
  intro s ht
  obtain ⟨hexec, hframe⟩ := exec_of_commandBody (commandBody_rkenc_invalid ht)
  exact ⟨_, hexec, rfl, rfl, rfl, rfl, fun _ => rfl, rfl, hframe, complete_completed _⟩

/-- Settles O23: the gate passes, and the empty key ends the command with VALID written. -/
theorem rkencEmptyKeyIsKeyEmpty : Obligations.RkencEmptyKeyIsKeyEmpty := by
  intro s ht hk
  obtain ⟨hexec, hframe⟩ := exec_of_commandBody (commandBody_rkenc_noKey ht hk)
  exact ⟨_, hexec, rfl, rfl, rfl, rfl, fun _ => rfl, rfl, hframe, complete_completed _⟩

/-- Settles O24: as for RKENC, with RKDEC's results and no gate. -/
theorem rkdecSubtractsTheCycledKey : Obligations.RkdecSubtractsTheCycledKey := by
  intro s hk
  obtain ⟨hexec, hframe⟩ := exec_of_commandBody (commandBody_rkdec_keyed hk)
  exact ⟨_, hexec, fun _ hi => readTout_xformKeyed_below _ _ hi,
    fun _ hi => readTout_xformKeyed_beyond _ _ hi, rfl, rfl, anyOor_wrap _ (rkdecResult_eq s), rfl,
    rfl, hframe, complete_completed _⟩

/-- Settles O25: the empty key is RKDEC's only check, so the text plays no part. -/
theorem rkdecEmptyKeyIsKeyEmpty : Obligations.RkdecEmptyKeyIsKeyEmpty := by
  intro s hk
  obtain ⟨hexec, hframe⟩ := exec_of_commandBody (commandBody_rkdec_noKey hk)
  exact ⟨_, hexec, rfl, rfl, rfl, rfl, fun _ => rfl, rfl, hframe, complete_completed _⟩

/-- Settles O26: every result is a WRAP, whose packed entry lies in the alphabet. -/
theorem rkencStaysInTheAlphabet : Obligations.RkencStaysInTheAlphabet := by
  intro s t ht hk hexec
  rw [exec_next_iff, commandBody_rkenc_keyed ht hk] at hexec
  subst hexec
  refine ⟨anyOor_wrap _ (rkencResult_eq s), fun i hi => ?_⟩
  rw [readTout_complete, readTout_xformKeyed_below _ _ hi]
  exact pack_wrap_inAlphabet _

/-- RKDEC undoes RKENC at a position whose text symbol is RKENC's packed result, under the same key
(43_repeating_key.md R145). -/
theorem rkdecResult_eq_textCode {s u : State} {i : Nat}
    (hc : 32 ≤ textCode s i ∧ textCode s i ≤ 95) (hk : ksym u i = ksym s i)
    (hu : textCode u i = rkencResult s i % 256) : rkdecResult u i = textCode s i := by
  rw [rkdecResult_eq, hu, hk, rkencResult_eq, wrap_sub_wrap_symbol hc]

/-- The key multiplexer reads the same key symbols in every state of the frame. -/
theorem CommandFrame.ksym_eq {s t : State} (h : CommandFrame s t) (i : Nat) :
    ksym t i = ksym s i := by
  rw [ksym, ksym, keyCode, keyCode, h.keyLen, h.key]

/-- Settles O38: what O21 says of RKENC's results goes through COPYBACK into what O24 says of RKDEC's,
with the key in place, and each position's WRAPs undo one another. -/
theorem repeatingKeyRoundTripThroughTheBuffers :
    Obligations.RepeatingKeyRoundTripThroughTheBuffers := by
  intro s hinv _ htext hk
  obtain ⟨t, henc, hresult, -, hlen, -, -, -, -, hframe, hdone⟩ :=
    rkencAddsTheCycledKey (accept (encode .rkenc) s) htext hk
  rw [accept_textLen] at hlen
  have hparams : t.params = s.params := hframe.params
  obtain ⟨h, m, q, hcopy, hexp, hsym⟩ := runStraight_copyBack (s := t)
    (hparams ▸ hinv.params) hdone.busy (hlen ▸ hparams ▸ hinv.textLen)
  rw [hlen] at hcopy hsym
  obtain ⟨v, hdec, hback, -, hvlen, -⟩ :=
    rkdecSubtractsTheCycledKey (accept (encode .rkdec) (takeBack m q t))
      (hk.trans_eq hframe.keyLen.symm)
  refine ⟨t, h, _, v, henc, hcopy, hexp, hdec, hvlen.trans hlen, fun i hi => ?_⟩
  have hc : 32 ≤ textCode s i ∧ textCode s i ≤ 95 := htext i hi
  have hx : 32 ≤ (readTin s i).toNat ∧ (readTin s i).toNat ≤ 95 := by
    rw [textCode] at hc
    omega
  rw [hback i (hi.trans_eq hlen.symm), pack_eq_symbol_iff hx]
  exact rkdecResult_eq_textCode hc (hframe.ksym_eq i) (textCode_of_copied (hresult i hi) (hsym i hi))

end Sys2Proof.Machine
end

section
/-! SUPPORT. The command error of a reserved word, the irq output and the idle block
(60_exceptions.md R151, R160, R161, R171). -/

namespace Sys2Proof.Machine

theorem engineStep_reserved {s : State} {why : Reserved} (h : decode s.opl = .reserved why) :
    engineStep s = .next (completeReserved s) := by
  rw [engineStep, h]

/-- Settles O9: such a word is reserved, and its completion writes ERR and the status of a completion
only. -/
theorem reservedWordCompletesIllegalOp : Obligations.ReservedWordCompletesIllegalOp := by
  intro s hr hw
  obtain ⟨why, hd⟩ := (decode_reserved_iff_toNat (w := s.opl)).2 (by omega)
  have he : engineStep s = .next (completeReserved s) := engineStep_reserved hd
  exact ⟨completeReserved s, (step_engine hr).trans he, rfl, rfl, rfl, rfl, fun _ => rfl, rfl, rfl,
    rfl, engineStep_frame he, engineStep_completed he⟩

/-- Settles O50: a CTRL write writes IE and not DONE, and an acknowledgement and an acceptance clear
DONE. -/
theorem irqFollowsDoneAndEnable : Obligations.IrqFollowsDoneAndEnable := by
  intro s w
  refine ⟨rfl, fun hb hd => ?_, fun hw => ?_, fun hb => ?_⟩
  · rw [(ctrlWriteSetsItsTwoBits s w).1 hb]
    simp [State.irq, hd]
  · rw [(statusWriteClearsDone s w).1]
    simp [State.irq, hw]
  · rw [cmdWriteAcceptsEveryWord s w hb]
    simp [State.irq]

/-- Settles O58: no command runs, so the step is the world's, and the world has no move. -/
theorem idleBlockDoesNothing : Obligations.IdleBlockDoesNothing := by
  intro s hi hp
  have hne : ¬ EngineReady s := fun ⟨hrun, _⟩ => by simp [hi] at hrun
  rw [step_world hne, worldStep, hp]

end Sys2Proof.Machine
end

section
/-! SUPPORT. Reset and hazards (70_reset_and_hazards.md R175 to R179, R183, R190): when a step stops, what a
clock edge leaves, how a running command completes and what it refuses, and the first command after
reset. -/

namespace Sys2Proof.Machine

/-- The step of a ready world move is that move (20_memory.md R53). -/
theorem step_worldReady {s : State} {p : Pending} {rest : List Pending} (hw : WorldReady s p rest) :
    step s = hostStep p.event { s with pending := rest } :=
  (stepPerformsPendingMove s p rest hw).1

/-- While rst = 1 the engine does not move, so the pending access is the step, and it is stuck. -/
theorem step_of_stuckInReset {s : State} (h : StuckInReset s) :
    step s = .fault .accessDuringReset := by
  obtain ⟨hr, p, rest, r, hp, he⟩ := h
  rw [step_worldReady ⟨hp, .inr (.inl hr)⟩, he]
  exact if_pos hr

theorem step_next_of_not_stuckInReset {s : State} (h : ¬ StuckInReset s) :
    ∃ t, step s = .next t := by
  by_cases hready : EngineReady s
  · rw [step_engine hready]
    exact engineStep_next s
  · cases hp : s.pending with
    | nil => exact ⟨s, by rw [step_world hready, worldStep, hp]⟩
    | cons p rest =>
      rw [step_worldReady ((worldReady_iff hp).2 hready)]
      cases he : p.event with
      | rst level => cases level <;> exact ⟨_, rfl⟩
      | access r => exact ⟨_, if_neg fun hr => h ⟨hr, p, rest, r, hp, he⟩⟩

/-- Settles O57: a stuck state stops, and every other state steps on. -/
theorem stepStopsOnlyOnAccessInReset : Obligations.StepStopsOnlyOnAccessInReset := by
  refine fun s => ⟨⟨fun hfault => ?_, step_of_stuckInReset⟩, step_next_of_not_stuckInReset⟩
  by_contra hstuck
  obtain ⟨t, ht⟩ := step_next_of_not_stuckInReset hstuck
  rw [hfault] at ht
  contradiction

/-- Buffers without a written entry read as the draws of the latest reset (log entry 3). -/
theorem reads_are_draws {s : State} (htin : s.tin = []) (hkey : s.key = []) (htout : s.tout = [])
    (i : Nat) :
    readTin s i = Config.drawTin s.resetCount i ∧ readKey s i = Config.drawKey s.resetCount i ∧
      readTout s i = Config.drawTout s.resetCount i := by
  simp [readTin, readKey, readTout, htin, hkey, htout]

/-- A further edge with rst = 1 leaves every buffer entry as it reads (log entry 9). -/
theorem resetEdge_reads {s : State} (hr : s.rst = true) (i : Nat) :
    readTin (resetEdge s) i = readTin s i ∧ readKey (resetEdge s) i = readKey s i ∧
      readTout (resetEdge s) i = readTout s i := by
  obtain ⟨htin, hkey, htout, hcount⟩ := resetEdge_held hr
  simp [readTin, readKey, readTout, htin, hkey, htout, hcount]

/-- Settles O55: the step is the edge; the first edge with rst = 1 forgets the buffers, which then read
as draws. -/
theorem resetEdgeResetsTheBlock : Obligations.ResetEdgeResetsTheBlock := by
  refine ⟨fun _ => rfl, fun s p rest hw => ⟨fun he => ?_, fun he => ?_⟩⟩
  · refine ⟨resetEdge { s with pending := rest }, ?_, resetEdge_atReset _, rfl, rfl, rfl, fun hr => ?_⟩
    · rw [step_worldReady hw, he]
      rfl
    · obtain ⟨htin, hkey, htout, hcount⟩ := resetEdge_first (s := { s with pending := rest }) hr
      exact ⟨hcount, reads_are_draws htin hkey htout⟩
  · rw [step_worldReady hw, he]
    rfl

/-- Settles O56: with rst = 1 a step is idle, a further reset edge or the release of reset. -/
theorem stateHoldsWhileInReset : Obligations.StateHoldsWhileInReset := by
  intro s t h hr hs
  have held : AtReset s := h.held hr
  obtain ⟨⟨-, hr', -⟩, -⟩ | ⟨-, -, rfl⟩ | ⟨p, rest, -, ⟨-, rfl⟩ | ⟨-, rfl⟩ | ⟨r, -, hr', -⟩⟩ :=
    step_cases hs
  · simp [hr] at hr'
  · exact ⟨held, fun _ => ⟨rfl, rfl, rfl⟩⟩
  · exact ⟨resetEdge_atReset _, resetEdge_reads (s := { s with pending := rest }) hr⟩
  · exact ⟨{ held with }, fun _ => ⟨rfl, rfl, rfl⟩⟩
  · simp [hr] at hr'

/-- A run goes through its first step. -/
theorem run_succ_of_step {s t : State} (h : step s = .next t) (k : Nat) :
    core.run (k + 1) s = core.run k t := by
  have hcore : core.step s = .next t := h
  simp only [Host.Core.run, hcore]

/-- A completion that is the next step ends a run of one step. -/
theorem run_one_completes {s : State} (h : EngineReady s) :
    ∃ t, core.run 1 s = .next t ∧ Completed t := by
  obtain ⟨t, ht, hc, -⟩ := everyRunningCommandCompletes s h
  exact ⟨t, run_succ_of_step ht 0, hc⟩

/-- A served access leaves a running command running, with rst and the moves to come as they were
(20_memory.md R70). -/
theorem serve_keeps_running (r : Request) {s : State} (hb : s.busy = true) :
    (serve r s).busy = true ∧ (serve r s).phase = s.phase ∧ (serve r s).rst = s.rst ∧
      (serve r s).pending = s.pending := by
  obtain ⟨d, n, q, hs⟩ := serve_busy r hb
  rw [hs]
  exact ⟨hb, rfl, rfl, rfl⟩

/-- A running command completes after the pending accesses at the latest: each access that comes before
the completion is served, keeps the command running and shortens the list. -/
theorem run_completes {moves : List Pending} (hacc : ∀ p ∈ moves, ∃ r, p.event = .access r)
    {s : State} (hp : s.pending = moves) (hrun : s.phase = .run) (hb : s.busy = true)
    (hr : s.rst = false) :
    ∃ k t, k ≤ moves.length + 1 ∧ core.run k s = .next t ∧ Completed t := by
  induction moves generalizing s with
  | nil =>
    obtain ⟨t, ht, hc⟩ := run_one_completes ⟨hrun, hr, .inl hp⟩
    exact ⟨1, t, by simp, ht, hc⟩
  | cons p rest ih =>
    obtain ⟨⟨r, he⟩, hrest⟩ := List.forall_mem_cons.1 hacc
    by_cases hready : EngineReady s
    · obtain ⟨t, ht, hc⟩ := run_one_completes hready
      exact ⟨1, t, by simp, ht, hc⟩
    · have hstep : step s = .next (serve r { s with pending := rest }) :=
        (stepPerformsPendingMove s p rest ((worldReady_iff hp).2 hready)).2 r he hr
      obtain ⟨hb', hphase, hrst, hpending⟩ :=
        serve_keeps_running r (s := { s with pending := rest }) hb
      obtain ⟨k, t, hk, ht, hc⟩ := ih hrest hpending (hphase.trans hrun) hb' (hrst.trans hr)
      exact ⟨k + 1, t, by simpa using hk, (run_succ_of_step hstep k).trans ht, hc⟩

/-- Settles O10: in the invariant a running command has BUSY = 1, and `run_completes` is the induction
on the pending accesses. -/
theorem acceptedCommandEventuallyCompletes : Obligations.AcceptedCommandEventuallyCompletes :=
  fun _ h hrun hr hacc => run_completes hacc rfl hrun (h.busyIffRun.2 hrun) hr

/-- A write to a location that waits on BUSY is refused while BUSY = 1 (20_memory.md R59). -/
theorem serve_write_busy {a : Addr} {w : Word} {s : State} {r : AccessResult} (hb : s.busy = true)
    (ha : a.extractLsb' 0 2 = 0#2) (h : memWrite a w s = unlessBusy s r) :
    serve (writeRequest a w) s = { s with response := some { resp := .error, rdata := 0#32 } } :=
  serve_write_error ha (h.trans (unlessBusy_busy hb r))

/-- Settles O44: MemWrite waits on BUSY at each of the five registers and at every TIN and KEY word, and
not at STATUS. -/
theorem busyWritesAreRefused : Obligations.BusyWritesAreRefused := by
  intro s w hp hb
  refine ⟨fun a h => ?_, 0#32, congrArg State.response (statusWriteClearsDone s w).1⟩
  have hd := depths_of_wellFormed hp
  obtain hm | ⟨i, hi, rfl⟩ | ⟨j, hj, rfl⟩ := h
  · have hreg (g : HostReg) {r : AccessResult} (hg : memWrite g.addr w s = unlessBusy s r) :=
      serve_write_busy hb (regAddr_aligned g) hg
    simp only [List.mem_cons, List.not_mem_nil, or_false] at hm
    obtain rfl | rfl | rfl | rfl | rfl := hm
    · exact hreg .ctrl (memWrite_ctrl w s)
    · exact hreg .cmd (by rw [memWrite, target_cmd])
    · exact hreg .shiftKey (by rw [memWrite, target_shiftKey])
    · exact hreg .textLen (by rw [memWrite, target_textLen])
    · exact hreg .keyLen (by rw [memWrite, target_keyLen])
  · exact serve_write_busy hb (tinAddr_aligned (by omega)) (by rw [memWrite, target_tinAddr hp hi])
  · exact serve_write_busy hb (keyAddr_aligned (by omega)) (by rw [memWrite, target_keyAddr hp hj])

/-- The empty text lies in the alphabet. -/
theorem textInAlphabet_of_empty {s : State} (h : s.textLen = 0) : TextInAlphabet s := by
  simp [TextInAlphabet, h]

/-- Settles O54: what each command's own statement says at TEXT_LEN = 0 and KEY_LEN = 0, which
acceptance leaves. -/
theorem firstCommandAfterReset : Obligations.FirstCommandAfterReset := by
  refine ⟨by constructor <;> rfl, fun s h => ⟨by simp [State.irq, h.ie], h.wrapSym, h.ie, h.textLen,
    h.keyLen, h.outLen, h.shiftKey, ?_, ?_, ?_, ?_, ?_⟩⟩
  · obtain ⟨t, hexec, hvalid, -, herr, -⟩ :=
      validateChecksTheText.2 (accept (encode .validate) s)
    exact ⟨t, hexec, hvalid.2 (by simp [h.textLen]), herr⟩
  · obtain ⟨t, hexec, -, -, hlen, -, -, herr, -⟩ := shencShiftsTheText.2 (accept (encode .shenc) s)
    exact ⟨t, hexec, hlen.trans h.textLen, herr⟩
  · obtain ⟨t, hexec, -, -, hlen, -, -, herr, -⟩ := shdecUnshiftsTheText.2 (accept (encode .shdec) s)
    exact ⟨t, hexec, hlen.trans h.textLen, herr⟩
  · obtain ⟨t, hexec, herr, hvalid, -⟩ := rkencEmptyKeyIsKeyEmpty (accept (encode .rkenc) s)
      (textInAlphabet_of_empty h.textLen) h.keyLen
    exact ⟨t, hexec, hvalid, herr⟩
  · obtain ⟨t, hexec, herr, -⟩ := rkdecEmptyKeyIsKeyEmpty (accept (encode .rkdec) s) h.keyLen
    exact ⟨t, hexec, herr⟩

end Sys2Proof.Machine
end
